-- ==== Sys2Proof/Word.lean ====
section
/-! DEFINITION. The two word sizes of the hardware: 8-bit bytes and 16-bit words (00_scope.md R6, R9). Every field
extraction, pairing and sign extension stands in Machine/Bits.lean. -/

namespace Sys2Proof

/-- An 8-bit byte, `v[7:0]` (R9): a general register, a stored byte, an immediate. -/
abbrev Byte := BitVec 8

/-- A 16-bit value, `v[15:0]` (R9): SP, PC, a register pair, an address of the 16-bit address space. -/
abbrev Word := BitVec 16

end Sys2Proof
end

