-- ==== Sys2Proof/Machine/Bits.lean ====
section
/-! DEFINITION. Bit fields, pairing and sign extension (00_scope.md R9, R10): the helpers that the decoder, the operands
and the devices share. -/

namespace Sys2Proof

/-- `hi(v)` is `v[15:8]` (R9). -/
def hi (v : Word) : Byte := v.extractLsb' 8 8

/-- `lo(v)` is `v[7:0]` (R9). -/
def lo (v : Word) : Byte := v.extractLsb' 0 8

/-- `pair(h, l)` is `h * 256 + l` (R9). -/
def pair (h l : Byte) : Word := h ++ l

/-- `v[i]`, bit i of a byte, bit 0 the least significant (R9). -/
def bit (v : Byte) (i : Nat) : Bool := v.getLsbD i

/-- The one-bit mask `1 << i`. -/
def bitMask (i : Nat) : Byte := 1#8 <<< i

/-- `v | (1 << i)`. -/
def setBit (v : Byte) (i : Nat) : Byte := v ||| bitMask i

/-- `v & ~(1 << i) & 0xFF`. -/
def clearBit (v : Byte) (i : Nat) : Byte := v &&& ~~~ bitMask i

/-- `v` with bit i at the given value. -/
def putBit (v : Byte) (i : Nat) (b : Bool) : Byte := if b then setBit v i else clearBit v i

/-- `sext_16` of the byte that encodes the offset e (R10): e itself, taken mod 2^16. -/
def offset16 (e : Int) : Word := BitVec.ofInt 16 e

/-- The immediate byte that encodes the offset e. -/
def offset8 (e : Int) : Byte := BitVec.ofInt 8 e

/-- A Boolean as a number, 1 or 0. -/
def flagNat (b : Bool) : Nat := if b then 1 else 0

end Sys2Proof
end

