-- ==== Sys2Proof/Config.lean ====
section
/-! DEFINITION. What one instance of the machine fixes before it runs (the named parameters of 00_scope.md R7), the
host's button state, and the FREE VALUES: constants without a body, of which nothing can be proved. -/

namespace Sys2Proof

/-- The host's current state of the eight buttons (20_memory.md R78); `true` is pressed. -/
structure Buttons where
  up     : Bool
  down   : Bool
  left   : Bool
  right  : Bool
  start  : Bool
  select : Bool
  a      : Bool
  b      : Bool
  deriving DecidableEq, Repr

/-- The name of one button (R13, R78, R453). -/
inductive Button where
  | up | down | left | right | start | select | a | b
  deriving DecidableEq, Repr

namespace Config

/-- P_ISR_CYCLES: the cost of an interrupt service step (R7, D2). -/
inductive IsrCycles where
  | c12 | c20
  deriving DecidableEq, Repr

/-- P_EI_DELAY: after how many instructions EI takes effect (R7, D3). -/
inductive EiDelay where
  | none | one
  deriving DecidableEq, Repr

/-- P_HALT_WAKE: which byte a halted core with IME false tests (R7, D4). -/
inductive HaltWake where
  | pending            -- "IF"
  | pendingAndEnabled  -- "IF_AND_IE"
  deriving DecidableEq, Repr

/-- P_STOP_LEN: the length of STOP in bytes (R7, D7). -/
inductive StopLen where
  | one | two
  deriving DecidableEq, Repr

/-- P_IF_RETRACT: which IF bits the display controller withdraws at each advance (R7, D20). -/
inductive IfRetract where
  | tracked | always
  deriving DecidableEq, Repr

/-- P_ADD16_N: what ADD HL,rr does to the N flag (R7, D33). -/
inductive Add16N where
  | unchanged | cleared
  deriving DecidableEq, Repr

/-- P_JOYPAD: the value a read of P1 returns (R7, R78, D29). `host` is the decided value, a function the host supplies;
`absent` is the open-bus 0xEF; `conventional` is the synthesis of 93_implementation_defined.md I12, one function a host may
supply. -/
inductive Joypad where
  | absent | host | conventional
  deriving DecidableEq, Repr

/-- The named parameters of R7 that are choices between readings. P_CART, P_BOOT and P_INIT are arguments of reset
(Machine/Reset.lean). One machine carries its parameters unchanged through every step. -/
structure Params where
  isrCycles   : IsrCycles
  eiDelay     : EiDelay
  haltWake    : HaltWake
  stopLen     : StopLen
  divResetAcc : Bool
  ifRetract   : IfRetract
  lycGated    : Bool
  objEnable   : Bool
  winNeedsBg  : Bool
  add16N      : Add16N
  joypad      : Joypad
  deriving DecidableEq, Repr

/-- The decided value of every parameter (the table of R7). -/
def decided : Params where
  isrCycles   := .c20
  eiDelay     := .none
  haltWake    := .pending
  stopLen     := .two
  divResetAcc := false
  ifRetract   := .tracked
  lycGated    := false
  objEnable   := false
  winNeedsBg  := false
  add16N      := .unchanged
  joypad      := .host

/-- FREE VALUE. The byte the k-th unspecified read returns: a read of DMA (0xFF46) or of absent or disabled cartridge RAM is
"any value, drawn per read" (U8, U9, R48, R91). Log entries 5 and 6. -/
opaque freeByte : Nat → Byte

/-- FREE VALUE. The host's joypad synthesis P_JOYPAD, from the stored select byte and the button state (R78, U21). Log
entry 7. -/
opaque joypad : Byte → Buttons → Byte

end Config
end Sys2Proof
end

