-- ==== Sys2Proof/Machine/State.lean ====
section
/-! DEFINITION. The state of the machine as plain data: everything 10_state.md names (INVENTORY.md lists it line by line),
the machine's parameters, the images it was built with, and its state right after reset (70_reset_and_hazards.md R420 to
R427). Also the reasons a step can stop. -/

namespace Sys2Proof.Machine

/-! ## The parts of the state -/

/-- The seven general registers an instruction can name (R20). F is the packing of the flags (R22, R23). -/
structure Regs where
  a : Byte
  b : Byte
  c : Byte
  d : Byte
  e : Byte
  h : Byte
  l : Byte
  deriving DecidableEq, Repr

/-- The four flag booleans, the only flag state (R23, R24). -/
structure Flags where
  z : Bool
  n : Bool
  h : Bool
  c : Bool
  deriving DecidableEq, Repr

/-- The modes of the display controller (R32). -/
inductive Mode where
  | spriteSearch | pixelTransfer | hBlank | vBlank
  deriving DecidableEq, Repr

/-- The display controller's own state (R32). LY, STAT and LCDC are bytes of the I/O block. -/
structure Display where
  mode          : Mode
  modeClock     : Nat
  enabled       : Bool
  frameComplete : Bool
  setVblank     : Bool
  setStat       : Bool
  deriving DecidableEq, Repr

/-- The periodic counter's accumulators (R33). -/
structure Timer where
  divAcc  : Nat
  timaAcc : Nat
  deriving DecidableEq, Repr

/-- The kinds of cartridge bank controller (R80). -/
inductive BankKind where
  | none | type1 | type2 | type3 | type4 | type5
  deriving DecidableEq, Repr

/-- The bank controller's registers (R34). `bankingMode` is 1 for RAM-banking. -/
structure BankRegs where
  romBank     : BitVec 7
  ramBank     : BitVec 2
  ramEnabled  : Bool
  bankingMode : BitVec 1
  deriving DecidableEq, Repr

/-- A memory: the bytes that differ from what an unlisted address reads as (`unlisted`, Machine/Ops.lean), by rising
address. -/
abbrev Memory := List Host.Cell

/-- The four memories of the machine. `bus` is the storage behind 0x8000-0xFFFF, keyed by bus address (video RAM, work RAM,
the sprite table, the I/O block, high RAM and IE); the other three are keyed by offset. -/
inductive Store where
  | bus | cartRam | cartRom | bootRom
  deriving DecidableEq, Repr

/-- The cartridge the machine was built with: its image and length in bytes (P_CART), the controller kind and, where
external RAM is present, the buffer's size (R34, R80 to R82). -/
structure Cartridge where
  rom     : Memory
  romSize : Nat
  kind    : BankKind
  ramSize : Option Nat
  deriving DecidableEq, Repr

/-- The grey values the renderer emits (R49, R384): 255 white, 170, 85, 0 black. -/
inductive Grey where
  | g255 | g170 | g85 | g0
  deriving DecidableEq, Repr

/-- One line of 160 grey values, and a frame of 144 lines (R35, R398). -/
abbrev Line := Vector Grey 160
abbrev Frame := Vector Line 144

/-- The four kinds of fault with what each records (the table of R330). -/
inductive FaultKind where
  | illegalOpcode (opcode : Byte) (address : Word)
  | unspecifiedInterruptState (pending enabled : Byte)
  | unspecifiedWrite (address : Word) (value : Byte)
  | cartridgeOutOfRange (offset : Nat)
  deriving DecidableEq, Repr

/-- The regions of the address space (the decode table of R62). -/
inductive Region where
  | fixedRom | bankedRom | vram | cartRam | wram | echo | oam | unusable | io | hram | ie
  deriving DecidableEq, Repr

/-- What a byte address holds for the processor path: a byte, an unspecified byte (R48, R91), or an offset outside the
cartridge (R92). -/
inductive BusByte where
  | stored (v : Byte)
  | unspecified
  | outOfRange (offset : Nat)
  deriving DecidableEq, Repr

/-- The interrupt sources in priority order (R331). -/
inductive InterruptSource where
  | vblank | stat | timer | serial | joypad
  deriving DecidableEq, Repr

/-! ## The state -/

/-- The machine. The groups are: the processor core (R20 to R28, R37), the bus (R30, R31) and its storage (R62 to R79),
the devices (R32 to R34), the outputs (R35), the fault (R36), and what is fixed when the machine is built (R7, R428). -/
structure State where
  regs       : Regs
  flags      : Flags
  sp         : Word
  pc         : Word
  ime        : Bool
  halted     : Bool
  /-- EI executed and not yet in effect (R37, R304). Only a machine at P_EI_DELAY = 1 sets it. -/
  eiPending  : Bool
  /-- The booting latch (R30). -/
  booting    : Bool
  /-- Video RAM accessible to the processor (R31). -/
  vramGate   : Bool
  /-- Sprite table accessible to the processor (R31). -/
  oamGate    : Bool
  /-- The storage of the bus (`Store.bus`). -/
  mem        : Memory
  /-- The external cartridge RAM buffer (R34). -/
  cartRam    : Memory
  bank       : BankRegs
  display    : Display
  timer      : Timer
  /-- The serial output stream, oldest byte first (R35, R345). -/
  serialLog  : List Byte
  frame      : Frame
  /-- Absent, or the fault the machine stopped with (R36). -/
  fault      : Option FaultKind
  /-- What the last step returned to the host: its cycle cost (R13, R320), 0 where no step has returned one. -/
  cost       : Nat
  /-- The host's button state (R78). -/
  buttons    : Buttons
  /-- MODEL'S OWN: how many unspecified bytes have been drawn (log entries 5 and 6). -/
  draws      : Nat
  cart       : Cartridge
  /-- The bootstrap image P_BOOT, 256 bytes; empty where absent (R63, R428). -/
  bootRom    : Memory
  params     : Config.Params
  deriving DecidableEq, Repr

/-! ## Why a step stops -/

/-- A step that stops with a fault. Each reason carries what R330 says it records and the state at the fault: everything
before the failing access has happened and nothing after it, `fault` is set, and no cost is returned. All four are
raised by the processor's part of a step; `step` answers the same fault again in a faulted state. Each is safe: the spec
says the machine stops, and a stop proves nothing about what runs on. -/
inductive Fault where
  /-- Raised by executing one of the eleven illegal opcodes (R306). Safe. -/
  | illegalOpcode (opcode : Byte) (address : Word) (final : State)
  /-- Raised by an interrupt check or halt wake that bits 7 to 5 of IF and IE alone decide (R321, R323). Safe. -/
  | unspecifiedInterruptState (pending enabled : Byte) (final : State)
  /-- Raised by a processor write to LY, 0xFF44 (R75). Safe. -/
  | unspecifiedWrite (address : Word) (value : Byte) (final : State)
  /-- Raised by a processor access outside the cartridge image or the cartridge RAM buffer (R92). Safe. -/
  | cartridgeOutOfRange (offset : Nat) (final : State)
  deriving DecidableEq, Repr

/-- Why the model has no meaning for an instruction. -/
inductive Refusal where
  /-- Raised by `exec` for an instruction without a meaning yet; no arm raises it now. Safe. -/
  | notModelled (mnemonic : String)
  deriving DecidableEq, Repr

/-! ## Reset -/

/-- A cartridge of type code 0x00 with a 0x8000-byte image of zeros: kind none, no external RAM (R80). P_CART is an argument
the spec gives no value (D31); this is the one State.reset is built with. DESIGN CHOICE, log entry 1. -/
def blankCartridge : Cartridge where
  rom     := []
  romSize := 0x8000
  kind    := .none
  ramSize := Option.none

/-- The machine right after reset without a bootstrap image (R422 to R426): the registers of R422, the I/O bytes of R423
(they are what the bus storage reads as where nothing is listed), the device state of R424, the latch clear (R426). RAM that
R425 leaves to P_INIT reads 0x00 (DESIGN CHOICE, log entry 2). Every other argument of reset, a bootstrap image among them, is
in Machine/Reset.lean's `resetWith`. -/
def State.reset : State where
  regs       := { a := 0x01, b := 0x00, c := 0x13, d := 0x00, e := 0xD8, h := 0x01, l := 0x4D }
  flags      := { z := true, n := false, h := true, c := true }
  sp         := 0xFFFE
  pc         := 0x0100
  ime        := false
  halted     := false
  eiPending  := false
  booting    := false
  vramGate   := true
  oamGate    := true
  mem        := []
  cartRam    := []
  bank       := { romBank := 1, ramBank := 0, ramEnabled := false, bankingMode := 0 }
  display    := { mode := .hBlank, modeClock := 0, enabled := false, frameComplete := false,
                  setVblank := false, setStat := false }
  timer      := { divAcc := 0, timaAcc := 0 }
  serialLog  := []
  frame      := Vector.replicate 144 (Vector.replicate 160 .g255)
  fault      := none
  cost       := 0
  buttons    := { up := false, down := false, left := false, right := false,
                  start := false, select := false, a := false, b := false }
  draws      := 0
  cart       := blankCartridge
  bootRom    := []
  params     := Config.decided

end Sys2Proof.Machine
end

