-- ==== Sys2Proof/Machine/Ops.lean ====
section
/-! DEFINITION. The shared operations of the machine: memories in canonical form, the storage path, the processor path
with its regions, gates, observers and bank controller (20_memory.md), instruction-byte fetch, the stack, and interrupt
service with the return from it. -/

namespace Sys2Proof.Machine

/-! ## Ports: the control and status registers of the I/O block (R40) -/

namespace Port
abbrev P1   : Nat := 0xFF00
abbrev SB   : Nat := 0xFF01
abbrev SC   : Nat := 0xFF02
abbrev DIV  : Nat := 0xFF04
abbrev TIMA : Nat := 0xFF05
abbrev TMA  : Nat := 0xFF06
abbrev TAC  : Nat := 0xFF07
abbrev IF   : Nat := 0xFF0F
abbrev LCDC : Nat := 0xFF40
abbrev STAT : Nat := 0xFF41
abbrev SCY  : Nat := 0xFF42
abbrev SCX  : Nat := 0xFF43
abbrev LY   : Nat := 0xFF44
abbrev LYC  : Nat := 0xFF45
abbrev DMA  : Nat := 0xFF46
abbrev BGP  : Nat := 0xFF47
abbrev OBP0 : Nat := 0xFF48
abbrev OBP1 : Nat := 0xFF49
abbrev WY   : Nat := 0xFF4A
abbrev WX   : Nat := 0xFF4B
abbrev BOOT : Nat := 0xFF50
abbrev IE   : Nat := 0xFFFF
end Port

/-! ## Memories -/

/-- What an unlisted address reads as. The I/O block reads as R423 gives it without a bootstrap image (LCDC 0x91, BGP 0xFC,
OBP0 and OBP1 0xFF, every other byte 0x00); RAM and the images, which R425 leaves to P_INIT or to an argument, read 0x00
(DESIGN CHOICE, log entries 1 and 2). -/
def unlisted (st : Store) (k : Nat) : Byte :=
  match st with
  | .bus =>
    if k = Port.LCDC then 0x91
    else if k = Port.BGP then 0xFC
    else if k = Port.OBP0 then 0xFF
    else if k = Port.OBP1 then 0xFF
    else 0x00
  | .cartRam | .cartRom | .bootRom => 0x00

/-- The byte at an address. -/
def Memory.read (st : Store) : Memory → Nat → Byte
  | [], k => unlisted st k
  | (a, v) :: m, k => if a = k then v else Memory.read st m k

/-- The memory without the entries of an address. -/
def Memory.erase : Memory → Nat → Memory
  | [], _ => []
  | (a, v) :: m, k => if a = k then Memory.erase m k else (a, v) :: Memory.erase m k

/-- The memory with an entry put before the first larger address. -/
def Memory.insert : Memory → Nat → Byte → Memory
  | [], k, v => [(k, v)]
  | (a, w) :: m, k, v => if k < a then (k, v) :: (a, w) :: m else (a, w) :: Memory.insert m k v

/-- The memory with a byte written: listed exactly when it differs from what an unlisted address reads as. -/
def Memory.write (st : Store) (m : Memory) (k : Nat) (v : Byte) : Memory :=
  if v = unlisted st k then m.erase k else (m.erase k).insert k v

/-- The canonical form: addresses strictly rising, no entry equal to what an unlisted address reads as. -/
abbrev Memory.wf (st : Store) (m : Memory) : Prop :=
  m.Pairwise (fun x y => x.1 < y.1) ∧ ∀ c ∈ m, c.2 ≠ unlisted st c.1

/-! ## The storage path (R61) -/

/-- `StoreRead(addr)`: the stored byte, no gate and no observer. -/
def State.load (s : State) (k : Nat) : Byte := s.mem.read .bus k

/-- `StoreWrite(addr, v)`: the stored byte replaced, no gate and no observer. -/
def State.store (s : State) (k : Nat) (v : Byte) : State := { s with mem := s.mem.write .bus k v }

/-! ## Faults (R330) -/

/-- The state a fault leaves: `fault` present, no cost returned, nothing else changed by raising it. -/
def State.stopped (s : State) (k : FaultKind) : State := { s with fault := some k, cost := 0 }

/-- The fault of a kind with its final state. -/
def FaultKind.toFault (k : FaultKind) (final : State) : Fault :=
  match k with
  | .illegalOpcode op a => .illegalOpcode op a final
  | .unspecifiedInterruptState p e => .unspecifiedInterruptState p e final
  | .unspecifiedWrite a v => .unspecifiedWrite a v final
  | .cartridgeOutOfRange off => .cartridgeOutOfRange off final

/-- `raise Fault(kind)`. -/
def raise {α : Type} (k : FaultKind) (s : State) : Except Fault α := .error (k.toFault (s.stopped k))

/-- The outcome of an instruction or service that ran to completion at a cost, or faulted. -/
def complete (cost : Nat) (r : Except Fault State) : Host.Outcome State Fault Refusal :=
  match r with
  | .ok s => .next { s with cost := cost }
  | .error f => .fault f

/-! ## Address decode (R62) -/

/-- The region of an address, the decode table of R62. -/
def region (a : Word) : Region :=
  let n := a.toNat
  if n < 0x4000 then .fixedRom
  else if n < 0x8000 then .bankedRom
  else if n < 0xA000 then .vram
  else if n < 0xC000 then .cartRam
  else if n < 0xE000 then .wram
  else if n < 0xFE00 then .echo
  else if n < 0xFEA0 then .oam
  else if n < 0xFF00 then .unusable
  else if n < 0xFF80 then .io
  else if n < 0xFFFF then .hram
  else .ie

/-- The bus storage an address of a storage region reaches: itself, or for the echo region the work RAM 0x2000 below it
(R64). -/
def storageKey (a : Word) : Nat :=
  match region a with
  | .echo => a.toNat - 0x2000
  | _ => a.toNat

/-! ## Cartridge (R80 to R92) -/

/-- `CartByte(offset)` (R92). -/
def cartByte (s : State) (off : Nat) : BusByte :=
  if off < s.cart.romSize then .stored (s.cart.rom.read .cartRom off) else .outOfRange off

/-- The image offset of an address in the switched window, with the alias skip of a type-1 controller (R89). -/
def romOffset (s : State) (a : Word) : Nat :=
  let b := s.bank.romBank.toNat
  if b = 0 ∨ b = 1 then a.toNat
  else
    let b' := if s.cart.kind = .type1 ∧ (b = 0x20 ∨ b = 0x40 ∨ b = 0x60) then b + 1 else b
    b' * 0x4000 + (a.toNat - 0x4000)

/-- The buffer offset of an address in the cartridge RAM window (R91). -/
def ramOffset (s : State) (a : Word) : Nat :=
  if s.cart.kind = .type2 then a.toNat - 0xA000 else s.bank.ramBank.toNat * 0x2000 + (a.toNat - 0xA000)

/-- What the cartridge RAM window holds: unspecified where RAM is absent or disabled (R91). -/
def cartRamByte (s : State) (a : Word) : BusByte :=
  match s.cart.ramSize with
  | none => .unspecified
  | some size =>
    if s.bank.ramEnabled then
      if ramOffset s a < size then .stored (s.cartRam.read .cartRam (ramOffset s a)) else .outOfRange (ramOffset s a)
    else .unspecified

/-- A write to 0x0000-0x7FFF, the same for every kind but none (R84 to R88). -/
def writeBankRegs (s : State) (a : Word) (v : Byte) : State :=
  if s.cart.kind = .none then s
  else if a.toNat < 0x2000 then
    { s with bank := { s.bank with ramEnabled := decide (v.extractLsb' 0 4 = 0xA#4) } }
  else if a.toNat < 0x4000 then
    { s with bank := { s.bank with romBank := s.bank.romBank.extractLsb' 5 2 ++ v.extractLsb' 0 5 } }
  else if a.toNat < 0x6000 then
    if s.bank.bankingMode = 1#1 then { s with bank := { s.bank with ramBank := v.extractLsb' 0 2 } }
    else { s with bank := { s.bank with romBank := v.extractLsb' 0 2 ++ s.bank.romBank.extractLsb' 0 5 } }
  else { s with bank := { s.bank with bankingMode := v.extractLsb' 0 1 } }

/-- A write to the cartridge RAM window (R91, R92). -/
def writeCartRam (s : State) (a : Word) (v : Byte) : Except Fault State :=
  match s.cart.ramSize with
  | none => .ok s
  | some size =>
    if s.bank.ramEnabled then
      if ramOffset s a < size then .ok { s with cartRam := s.cartRam.write .cartRam (ramOffset s a) v }
      else raise (.cartridgeOutOfRange (ramOffset s a)) s
    else .ok s

/-! ## Joypad (R78) -/

/-- The conventional synthesis (93_implementation_defined.md I12): 0xC0, the select bits, and a low nibble whose bits a
pressed button of a selected group clears. -/
def conventionalJoypad (sel : Byte) (b : Buttons) : Byte :=
  let down (pressed : Bool) (v : Byte) (i : Nat) : Byte := if pressed then clearBit v i else v
  let low : Byte := 0x0F
  let low := if bit sel 4 then low else down b.down (down b.up (down b.left (down b.right low 0) 1) 2) 3
  let low := if bit sel 5 then low else down b.start (down b.select (down b.b (down b.a low 0) 1) 2) 3
  0xC0 ||| (sel &&& 0x30) ||| low

/-- The value a processor read of P1 returns, from P_JOYPAD. -/
def joypadByte (s : State) : Byte :=
  match s.params.joypad with
  | .absent => 0xEF
  | .host => Config.joypad (s.load Port.P1) s.buttons
  | .conventional => conventionalJoypad (s.load Port.P1) s.buttons

/-! ## The processor path (R60) -/

/-- What a processor read of an address meets: the decode, then the gates, then the observers, then the storage. -/
def busView (s : State) (a : Word) : BusByte :=
  match region a with
  | .fixedRom =>
    if s.booting ∧ a.toNat < 0x0100 then .stored (s.bootRom.read .bootRom a.toNat) else cartByte s a.toNat
  | .bankedRom => cartByte s (romOffset s a)
  | .vram => .stored (if s.vramGate then s.load a.toNat else 0x00)
  | .cartRam => cartRamByte s a
  | .wram | .echo => .stored (s.load (storageKey a))
  | .oam => .stored (if s.oamGate then s.load a.toNat else 0x00)
  | .unusable => .stored 0x00
  | .io =>
    if a.toNat = Port.P1 then .stored (joypadByte s)
    else if a.toNat = Port.DMA then .unspecified
    else .stored (s.load a.toNat)
  | .hram | .ie => .stored (s.load a.toNat)

/-- `MemRead(addr, 1)`. An unspecified byte is drawn: the free value of this draw, and the count advanced. -/
def memRead (a : Word) (s : State) : Except Fault (Byte × State) :=
  match busView s a with
  | .stored v => .ok (v, s)
  | .unspecified => .ok (Config.freeByte s.draws, { s with draws := s.draws + 1 })
  | .outOfRange off => raise (.cartridgeOutOfRange off) s

/-- The sprite-table copy of R73 from page `v`, for the listed indices in order. Reads take the processor path, writes go
to the sprite table whatever its gate is. -/
def dmaCopy (v : Byte) : List Nat → State → Except Fault State
  | [], s => .ok s
  | i :: is, s =>
    match memRead (pair v 0 + BitVec.ofNat 16 i) s with
    | .ok (b, s') => dmaCopy v is (s'.store (0xFE00 + i) b)
    | .error f => .error f

/-- A processor write to 0xFF00-0xFF7F: the observers of R72 to R76, else storage (R71). -/
def writeIo (s : State) (a : Word) (v : Byte) : Except Fault State :=
  if a.toNat = Port.SC then
    let s := s.store Port.SC v
    .ok (if bit v 7 then { s with serialLog := s.serialLog ++ [s.load Port.SB] } else s)
  else if a.toNat = Port.DIV then
    let s := s.store Port.DIV 0x00
    .ok (if s.params.divResetAcc then { s with timer := { s.timer with divAcc := 0 } } else s)
  else if a.toNat = Port.LY then raise (.unspecifiedWrite a v) s
  else if a.toNat = Port.DMA then dmaCopy v (List.range 160) s
  else if a.toNat = Port.BOOT then
    let s := s.store Port.BOOT v
    .ok (if v = 0x00 then s else { s with booting := false })
  else .ok (s.store a.toNat v)

/-- `MemWrite(addr, 1, v)`. -/
def memWrite (a : Word) (v : Byte) (s : State) : Except Fault State :=
  match region a with
  | .fixedRom | .bankedRom => .ok (writeBankRegs s a v)
  | .vram => .ok (if s.vramGate then s.store a.toNat v else s)
  | .cartRam => writeCartRam s a v
  | .wram | .echo => .ok (s.store (storageKey a) v)
  | .oam => .ok (if s.oamGate then s.store a.toNat v else s)
  | .unusable => .ok s
  | .io => writeIo s a v
  | .hram | .ie => .ok (s.store a.toNat v)

/-- `MemRead(addr, 2)`: the byte at addr first, low byte at the lower address (R11, R66, R68). -/
def memRead16 (a : Word) (s : State) : Except Fault (Word × State) := do
  let (l, s) ← memRead a s
  let (h, s) ← memRead (a + 1) s
  return (pair h l, s)

/-- `MemWrite(addr, 2, v)`: the low byte at addr, then the high byte at addr + 1 (R11, R66, R68). -/
def memWrite16 (a v : Word) (s : State) : Except Fault State := do
  let s ← memWrite a (lo v) s
  memWrite (a + 1) (hi v) s

/-- `Fetch8()`: the byte at PC, then PC advanced past it (R11, R26). -/
def fetch8 (s : State) : Except Fault (Byte × State) := do
  let (b, s) ← memRead s.pc s
  return (b, { s with pc := s.pc + 1 })

/-! ## Stack (R150) -/

/-- `Push16(v)`: SP pre-decremented for each byte, high byte first. -/
def push16 (v : Word) (s : State) : Except Fault State := do
  let s := { s with sp := s.sp - 1 }
  let s ← memWrite s.sp (hi v) s
  let s := { s with sp := s.sp - 1 }
  memWrite s.sp (lo v) s

/-- `Pop16()`: low byte first, SP post-incremented after each byte. -/
def pop16 (s : State) : Except Fault (Word × State) := do
  let (l, s) ← memRead s.sp s
  let s := { s with sp := s.sp + 1 }
  let (h, s) ← memRead s.sp s
  let s := { s with sp := s.sp + 1 }
  return (pair h l, s)

/-! ## Interrupt service and return (R322, R280) -/

/-- The bit of IF and IE that belongs to a source (R331). -/
def InterruptSource.index : InterruptSource → Nat
  | .vblank => 0 | .stat => 1 | .timer => 2 | .serial => 3 | .joypad => 4

/-- The vector of a source, `0x40 + 8 * source_index` (R331). -/
def InterruptSource.vector (i : InterruptSource) : Word := BitVec.ofNat 16 (0x40 + 8 * i.index)

/-- The lowest-numbered source whose bit is set (R321, R334). -/
def firstSource (m : Byte) : Option InterruptSource :=
  if bit m 0 then some .vblank
  else if bit m 1 then some .stat
  else if bit m 2 then some .timer
  else if bit m 3 then some .serial
  else if bit m 4 then some .joypad
  else none

/-- `Service(i)`: taking an interrupt, in the order of R322. It leaves `eiPending` alone: with IME true no EI is pending
(`State.Inv`), so none survives into a handler (R304, R337). In a state outside the invariant, which no run reaches, keeping it
is the model's choice (DESIGN CHOICE, log entry 25). -/
def serviceInterrupt (i : InterruptSource) (s : State) : Except Fault State := do
  let s := s.store Port.IF (clearBit (s.load Port.IF) i.index)
  let s := { s with ime := false }
  let s ← push16 s.pc s
  return { s with pc := i.vector, halted := false }

/-- The return of RET: PC popped (R279). -/
def returnFromCall (s : State) : Except Fault State := do
  let (t, s) ← pop16 s
  return { s with pc := t }

/-- The return of RETI: PC popped and IME set at once (R280, R338). -/
def returnFromInterrupt (s : State) : Except Fault State := do
  let s ← returnFromCall s
  return { s with ime := true }

end Sys2Proof.Machine
end

