-- ==== Sys2Proof/Machine/HostIo.lean ====
section
/-! DEFINITION. What the host does between steps (70_reset_and_hazards.md R453): buttons, the frame-complete query, and
loading: placing a byte of a program where the processor would fetch it. -/

namespace Sys2Proof.Machine

/-- The button state with one button set. -/
def Buttons.put (b : Buttons) (k : Button) (v : Bool) : Buttons :=
  match k with
  | .up => { b with up := v }
  | .down => { b with down := v }
  | .left => { b with left := v }
  | .right => { b with right := v }
  | .start => { b with start := v }
  | .select => { b with select := v }
  | .a => { b with a := v }
  | .b => { b with b := v }

/-- Whether a button is pressed. -/
def Buttons.get (b : Buttons) (k : Button) : Bool :=
  match k with
  | .up => b.up
  | .down => b.down
  | .left => b.left
  | .right => b.right
  | .start => b.start
  | .select => b.select
  | .a => b.a
  | .b => b.b

/-- The host presses a button (R78, R453). -/
def State.press (s : State) (k : Button) : State := { s with buttons := Buttons.put s.buttons k true }

/-- The host releases a button (R78, R453). -/
def State.release (s : State) (k : Button) : State := { s with buttons := Buttons.put s.buttons k false }

/-- The frame-complete query: the flag's value, and the flag cleared (R399). -/
def State.queryFrameComplete (s : State) : Bool × State :=
  (s.display.frameComplete, { s with display := { s.display with frameComplete := false } })

/-! ## Loading (outside the machine) -/

/-- An image byte written, and the image made long enough to hold it. -/
def placeRom (s : State) (off : Nat) (v : Byte) : State :=
  { s with cart := { s.cart with rom := s.cart.rom.write .cartRom off v, romSize := max s.cart.romSize (off + 1) } }

/-- A byte placed where a processor read of the address finds it: the image, the bootstrap image, enabled cartridge RAM, or
storage with its gate open. Addresses no stored byte stands behind (0xFEA0-0xFEFF, P1, DMA) keep what they read. -/
def State.place (s : State) (a : Word) (v : Byte) : State :=
  match region a with
  | .fixedRom =>
    if s.booting ∧ a.toNat < 0x0100 then { s with bootRom := s.bootRom.write .bootRom a.toNat v }
    else placeRom s a.toNat v
  | .bankedRom => placeRom s (romOffset s a) v
  | .vram => { s.store a.toNat v with vramGate := true }
  | .cartRam =>
    let off := ramOffset s a
    { s with
      cartRam := s.cartRam.write .cartRam off v
      cart := { s.cart with ramSize := some (max (s.cart.ramSize.getD 0) (off + 1)) }
      bank := { s.bank with ramEnabled := true } }
  | .wram | .echo => s.store (storageKey a) v
  | .oam => { s.store a.toNat v with oamGate := true }
  | .unusable => s
  | .io | .hram | .ie => s.store a.toNat v

/-- The state in which the next step executes: not faulted, not halted, and IME clear where the check would service an
interrupt. -/
def State.readyToFetch (s : State) : State :=
  let due := s.ime && decide (s.load Port.IF &&& s.load Port.IE ≠ 0)
  { s with fault := none, halted := false, ime := s.ime && !due }

end Sys2Proof.Machine
end

