-- ==== Sys2Proof/Syntax.lean ====
section
/-! DEFINITION. The abstract syntax. `Instr` has ONE constructor for each of the 511 rows of spec/opcode_table.json.
The spec states its rules over parameterised forms (`LD r,r'`, `BIT k,s`), so `Form` has one constructor for each such
form, and `Instr.form` and `Form.instr` name the form of a row and the row of a form. -/

namespace Sys2Proof

/-- An 8-bit register an operand can name (10_state.md R20, R21; F is never one). -/
inductive Reg8 where
  | A | B | C | D | E | H | L
  deriving DecidableEq, Repr

/-- The 3-bit register field r: a register, or the memory byte at HL (30_encoding.md R112). -/
inductive Operand8 where
  | reg (r : Reg8)
  | mHL
  deriving DecidableEq, Repr

/-- The pair field rr (R113, first table). -/
inductive Reg16 where
  | BC | DE | HL | SP
  deriving DecidableEq, Repr

/-- The pair field qq of PUSH and POP (R113, second table). -/
inductive StackPair where
  | BC | DE | HL | AF
  deriving DecidableEq, Repr

/-- The pair that addresses memory in `LD A,(rr)` and `LD (rr),A` (R135, R136). -/
inductive IndirectPair where
  | BC | DE
  deriving DecidableEq, Repr

/-- The condition field cc (R114). -/
inductive Cond where
  | NZ | Z | NC | C
  deriving DecidableEq, Repr

/-- The 8-bit ALU operations, in the order of the field y (R118). -/
inductive AluOp where
  | add | adc | sub | sbc | and | xor | or | cp
  deriving DecidableEq, Repr

/-- The prefixed rotates and shifts, in the order of the field y (R120). -/
inductive RotOp where
  | rlc | rrc | rl | rr | sla | sra | swap | srl
  deriving DecidableEq, Repr

/-- The bit number k of BIT, RES and SET (R120). -/
inductive BitNo where
  | b0 | b1 | b2 | b3 | b4 | b5 | b6 | b7
  deriving DecidableEq, Repr

/-- The restart vector, the field t times 8 (R119, R281). -/
inductive RstVector where
  | v00 | v08 | v10 | v18 | v20 | v28 | v30 | v38
  deriving DecidableEq, Repr

/-- The eleven base opcodes that name no instruction (R121). -/
inductive IllegalOp where
  | xD3 | xDB | xDD | xE3 | xE4 | xEB | xEC | xED | xF4 | xFC | xFD
  deriving DecidableEq, Repr

/-- The instructions, one constructor per row of spec/opcode_table.json. In a name, mHL is the operand `(HL)`, mHLi and mHLd
are `(HL+)` and `(HL-)`, mC is `(C)`, ma8 and ma16 are `(a8)` and `(a16)`. An operand n is the byte d8 or a8, w the word d16 or
a16, e the signed offset e8 (R115). The rows with an immediate operand stand first (Lean's runtime bounds the index of a
constructor that holds data); within each part the order is the table's. -/
inductive Instr where
  | ld_BC_d16 (w : Word)
  | ld_B_d8 (n : Byte)
  | ld_ma16_SP (w : Word)
  | ld_C_d8 (n : Byte)
  | ld_DE_d16 (w : Word)
  | ld_D_d8 (n : Byte)
  | jr_e8 (e : Int)
  | ld_E_d8 (n : Byte)
  | jr_NZ_e8 (e : Int)
  | ld_HL_d16 (w : Word)
  | ld_H_d8 (n : Byte)
  | jr_Z_e8 (e : Int)
  | ld_L_d8 (n : Byte)
  | jr_NC_e8 (e : Int)
  | ld_SP_d16 (w : Word)
  | ld_mHL_d8 (n : Byte)
  | jr_C_e8 (e : Int)
  | ld_A_d8 (n : Byte)
  | jp_NZ_a16 (w : Word)
  | jp_a16 (w : Word)
  | call_NZ_a16 (w : Word)
  | add_A_d8 (n : Byte)
  | jp_Z_a16 (w : Word)
  | call_Z_a16 (w : Word)
  | call_a16 (w : Word)
  | adc_A_d8 (n : Byte)
  | jp_NC_a16 (w : Word)
  | call_NC_a16 (w : Word)
  | sub_d8 (n : Byte)
  | jp_C_a16 (w : Word)
  | call_C_a16 (w : Word)
  | sbc_A_d8 (n : Byte)
  | ldh_ma8_A (n : Byte)
  | and_d8 (n : Byte)
  | add_SP_e8 (e : Int)
  | ld_ma16_A (w : Word)
  | xor_d8 (n : Byte)
  | ldh_A_ma8 (n : Byte)
  | or_d8 (n : Byte)
  | ld_HL_SPe8 (e : Int)
  | ld_A_ma16 (w : Word)
  | cp_d8 (n : Byte)
  | nop
  | ld_mBC_A
  | inc_BC
  | inc_B
  | dec_B
  | rlca
  | add_HL_BC
  | ld_A_mBC
  | dec_BC
  | inc_C
  | dec_C
  | rrca
  | stop
  | ld_mDE_A
  | inc_DE
  | inc_D
  | dec_D
  | rla
  | add_HL_DE
  | ld_A_mDE
  | dec_DE
  | inc_E
  | dec_E
  | rra
  | ld_mHLi_A
  | inc_HL
  | inc_H
  | dec_H
  | daa
  | add_HL_HL
  | ld_A_mHLi
  | dec_HL
  | inc_L
  | dec_L
  | cpl
  | ld_mHLd_A
  | inc_SP
  | inc_mHL
  | dec_mHL
  | scf
  | add_HL_SP
  | ld_A_mHLd
  | dec_SP
  | inc_A
  | dec_A
  | ccf
  | ld_B_B
  | ld_B_C
  | ld_B_D
  | ld_B_E
  | ld_B_H
  | ld_B_L
  | ld_B_mHL
  | ld_B_A
  | ld_C_B
  | ld_C_C
  | ld_C_D
  | ld_C_E
  | ld_C_H
  | ld_C_L
  | ld_C_mHL
  | ld_C_A
  | ld_D_B
  | ld_D_C
  | ld_D_D
  | ld_D_E
  | ld_D_H
  | ld_D_L
  | ld_D_mHL
  | ld_D_A
  | ld_E_B
  | ld_E_C
  | ld_E_D
  | ld_E_E
  | ld_E_H
  | ld_E_L
  | ld_E_mHL
  | ld_E_A
  | ld_H_B
  | ld_H_C
  | ld_H_D
  | ld_H_E
  | ld_H_H
  | ld_H_L
  | ld_H_mHL
  | ld_H_A
  | ld_L_B
  | ld_L_C
  | ld_L_D
  | ld_L_E
  | ld_L_H
  | ld_L_L
  | ld_L_mHL
  | ld_L_A
  | ld_mHL_B
  | ld_mHL_C
  | ld_mHL_D
  | ld_mHL_E
  | ld_mHL_H
  | ld_mHL_L
  | halt
  | ld_mHL_A
  | ld_A_B
  | ld_A_C
  | ld_A_D
  | ld_A_E
  | ld_A_H
  | ld_A_L
  | ld_A_mHL
  | ld_A_A
  | add_A_B
  | add_A_C
  | add_A_D
  | add_A_E
  | add_A_H
  | add_A_L
  | add_A_mHL
  | add_A_A
  | adc_A_B
  | adc_A_C
  | adc_A_D
  | adc_A_E
  | adc_A_H
  | adc_A_L
  | adc_A_mHL
  | adc_A_A
  | sub_B
  | sub_C
  | sub_D
  | sub_E
  | sub_H
  | sub_L
  | sub_mHL
  | sub_A
  | sbc_A_B
  | sbc_A_C
  | sbc_A_D
  | sbc_A_E
  | sbc_A_H
  | sbc_A_L
  | sbc_A_mHL
  | sbc_A_A
  | and_B
  | and_C
  | and_D
  | and_E
  | and_H
  | and_L
  | and_mHL
  | and_A
  | xor_B
  | xor_C
  | xor_D
  | xor_E
  | xor_H
  | xor_L
  | xor_mHL
  | xor_A
  | or_B
  | or_C
  | or_D
  | or_E
  | or_H
  | or_L
  | or_mHL
  | or_A
  | cp_B
  | cp_C
  | cp_D
  | cp_E
  | cp_H
  | cp_L
  | cp_mHL
  | cp_A
  | ret_NZ
  | pop_BC
  | push_BC
  | rst_00
  | ret_Z
  | ret
  | rst_08
  | ret_NC
  | pop_DE
  | illegal_D3
  | push_DE
  | rst_10
  | ret_C
  | reti
  | illegal_DB
  | illegal_DD
  | rst_18
  | pop_HL
  | ld_mC_A
  | illegal_E3
  | illegal_E4
  | push_HL
  | rst_20
  | jp_HL
  | illegal_EB
  | illegal_EC
  | illegal_ED
  | rst_28
  | pop_AF
  | ld_A_mC
  | di
  | illegal_F4
  | push_AF
  | rst_30
  | ld_SP_HL
  | ei
  | illegal_FC
  | illegal_FD
  | rst_38
  | rlc_B
  | rlc_C
  | rlc_D
  | rlc_E
  | rlc_H
  | rlc_L
  | rlc_mHL
  | rlc_A
  | rrc_B
  | rrc_C
  | rrc_D
  | rrc_E
  | rrc_H
  | rrc_L
  | rrc_mHL
  | rrc_A
  | rl_B
  | rl_C
  | rl_D
  | rl_E
  | rl_H
  | rl_L
  | rl_mHL
  | rl_A
  | rr_B
  | rr_C
  | rr_D
  | rr_E
  | rr_H
  | rr_L
  | rr_mHL
  | rr_A
  | sla_B
  | sla_C
  | sla_D
  | sla_E
  | sla_H
  | sla_L
  | sla_mHL
  | sla_A
  | sra_B
  | sra_C
  | sra_D
  | sra_E
  | sra_H
  | sra_L
  | sra_mHL
  | sra_A
  | swap_B
  | swap_C
  | swap_D
  | swap_E
  | swap_H
  | swap_L
  | swap_mHL
  | swap_A
  | srl_B
  | srl_C
  | srl_D
  | srl_E
  | srl_H
  | srl_L
  | srl_mHL
  | srl_A
  | bit_0_B
  | bit_0_C
  | bit_0_D
  | bit_0_E
  | bit_0_H
  | bit_0_L
  | bit_0_mHL
  | bit_0_A
  | bit_1_B
  | bit_1_C
  | bit_1_D
  | bit_1_E
  | bit_1_H
  | bit_1_L
  | bit_1_mHL
  | bit_1_A
  | bit_2_B
  | bit_2_C
  | bit_2_D
  | bit_2_E
  | bit_2_H
  | bit_2_L
  | bit_2_mHL
  | bit_2_A
  | bit_3_B
  | bit_3_C
  | bit_3_D
  | bit_3_E
  | bit_3_H
  | bit_3_L
  | bit_3_mHL
  | bit_3_A
  | bit_4_B
  | bit_4_C
  | bit_4_D
  | bit_4_E
  | bit_4_H
  | bit_4_L
  | bit_4_mHL
  | bit_4_A
  | bit_5_B
  | bit_5_C
  | bit_5_D
  | bit_5_E
  | bit_5_H
  | bit_5_L
  | bit_5_mHL
  | bit_5_A
  | bit_6_B
  | bit_6_C
  | bit_6_D
  | bit_6_E
  | bit_6_H
  | bit_6_L
  | bit_6_mHL
  | bit_6_A
  | bit_7_B
  | bit_7_C
  | bit_7_D
  | bit_7_E
  | bit_7_H
  | bit_7_L
  | bit_7_mHL
  | bit_7_A
  | res_0_B
  | res_0_C
  | res_0_D
  | res_0_E
  | res_0_H
  | res_0_L
  | res_0_mHL
  | res_0_A
  | res_1_B
  | res_1_C
  | res_1_D
  | res_1_E
  | res_1_H
  | res_1_L
  | res_1_mHL
  | res_1_A
  | res_2_B
  | res_2_C
  | res_2_D
  | res_2_E
  | res_2_H
  | res_2_L
  | res_2_mHL
  | res_2_A
  | res_3_B
  | res_3_C
  | res_3_D
  | res_3_E
  | res_3_H
  | res_3_L
  | res_3_mHL
  | res_3_A
  | res_4_B
  | res_4_C
  | res_4_D
  | res_4_E
  | res_4_H
  | res_4_L
  | res_4_mHL
  | res_4_A
  | res_5_B
  | res_5_C
  | res_5_D
  | res_5_E
  | res_5_H
  | res_5_L
  | res_5_mHL
  | res_5_A
  | res_6_B
  | res_6_C
  | res_6_D
  | res_6_E
  | res_6_H
  | res_6_L
  | res_6_mHL
  | res_6_A
  | res_7_B
  | res_7_C
  | res_7_D
  | res_7_E
  | res_7_H
  | res_7_L
  | res_7_mHL
  | res_7_A
  | set_0_B
  | set_0_C
  | set_0_D
  | set_0_E
  | set_0_H
  | set_0_L
  | set_0_mHL
  | set_0_A
  | set_1_B
  | set_1_C
  | set_1_D
  | set_1_E
  | set_1_H
  | set_1_L
  | set_1_mHL
  | set_1_A
  | set_2_B
  | set_2_C
  | set_2_D
  | set_2_E
  | set_2_H
  | set_2_L
  | set_2_mHL
  | set_2_A
  | set_3_B
  | set_3_C
  | set_3_D
  | set_3_E
  | set_3_H
  | set_3_L
  | set_3_mHL
  | set_3_A
  | set_4_B
  | set_4_C
  | set_4_D
  | set_4_E
  | set_4_H
  | set_4_L
  | set_4_mHL
  | set_4_A
  | set_5_B
  | set_5_C
  | set_5_D
  | set_5_E
  | set_5_H
  | set_5_L
  | set_5_mHL
  | set_5_A
  | set_6_B
  | set_6_C
  | set_6_D
  | set_6_E
  | set_6_H
  | set_6_L
  | set_6_mHL
  | set_6_A
  | set_7_B
  | set_7_C
  | set_7_D
  | set_7_E
  | set_7_H
  | set_7_L
  | set_7_mHL
  | set_7_A
  deriving DecidableEq, Repr

/-- The instruction forms, one constructor per form the rules R131 to R306 are stated for. -/
inductive Form where
  | ldRR (d s : Reg8)                      -- R131
  | ldRM (d : Reg8)                        -- R132
  | ldMR (s : Reg8)                        -- R133
  | ldRI (d : Reg8) (n : Byte)             -- R134
  | ldMI (n : Byte)                        -- R134
  | ldAInd (p : IndirectPair)              -- R135
  | ldIndA (p : IndirectPair)              -- R136
  | ldAAbs (w : Word)                      -- R137
  | ldAbsA (w : Word)                      -- R138
  | ldhAI (n : Byte)                       -- R139
  | ldhIA (n : Byte)                       -- R140
  | ldAC                                   -- R141
  | ldCA                                   -- R142
  | ldIncA                                 -- R143, LD (HL+),A
  | ldAInc                                 -- R144, LD A,(HL+)
  | ldDecA                                 -- R145, LD (HL-),A
  | ldADec                                 -- R146, LD A,(HL-)
  | ldRrI (p : Reg16) (w : Word)           -- R147
  | ldAbsSP (w : Word)                     -- R148
  | ldSPHL                                 -- R149
  | push (q : StackPair)                   -- R152
  | pop (q : StackPair)                    -- R153, R154
  | alu (o : AluOp) (x : Operand8)         -- R172 to R179
  | aluI (o : AluOp) (n : Byte)            -- R172 to R179
  | incR (d : Reg8)                        -- R180
  | incM                                   -- R181
  | decR (d : Reg8)                        -- R182
  | decM                                   -- R183
  | daa | cpl | scf | ccf                  -- R184 to R187
  | addHL (p : Reg16)                      -- R210
  | addSPe (e : Int)                       -- R211
  | ldHLSPe (e : Int)                      -- R212
  | incRr (p : Reg16)                      -- R213
  | decRr (p : Reg16)                      -- R214
  | rlca | rrca | rla | rra                -- R230 to R233
  | rot (o : RotOp) (x : Operand8)         -- R235 to R242
  | bit (k : BitNo) (x : Operand8)         -- R243
  | res (k : BitNo) (x : Operand8)         -- R244
  | set (k : BitNo) (x : Operand8)         -- R245
  | jp (w : Word)                          -- R272
  | jpCC (c : Cond) (w : Word)             -- R273
  | jpHL                                   -- R274
  | jr (e : Int)                           -- R275
  | jrCC (c : Cond) (e : Int)              -- R276
  | call (w : Word)                        -- R277
  | callCC (c : Cond) (w : Word)           -- R278
  | ret                                    -- R279
  | reti                                   -- R280
  | rst (t : RstVector)                    -- R281
  | retCC (c : Cond)                       -- R282
  | nop | halt | stop | di | ei            -- R300 to R304
  | illegal (op : IllegalOp)               -- R306
  deriving DecidableEq, Repr

/-- The form of an instruction. -/
def Instr.form : Instr → Form
  | .nop => .nop
  | .ld_BC_d16 w => .ldRrI .BC w
  | .ld_mBC_A => .ldIndA .BC
  | .inc_BC => .incRr .BC
  | .inc_B => .incR .B
  | .dec_B => .decR .B
  | .ld_B_d8 n => .ldRI .B n
  | .rlca => .rlca
  | .ld_ma16_SP w => .ldAbsSP w
  | .add_HL_BC => .addHL .BC
  | .ld_A_mBC => .ldAInd .BC
  | .dec_BC => .decRr .BC
  | .inc_C => .incR .C
  | .dec_C => .decR .C
  | .ld_C_d8 n => .ldRI .C n
  | .rrca => .rrca
  | .stop => .stop
  | .ld_DE_d16 w => .ldRrI .DE w
  | .ld_mDE_A => .ldIndA .DE
  | .inc_DE => .incRr .DE
  | .inc_D => .incR .D
  | .dec_D => .decR .D
  | .ld_D_d8 n => .ldRI .D n
  | .rla => .rla
  | .jr_e8 e => .jr e
  | .add_HL_DE => .addHL .DE
  | .ld_A_mDE => .ldAInd .DE
  | .dec_DE => .decRr .DE
  | .inc_E => .incR .E
  | .dec_E => .decR .E
  | .ld_E_d8 n => .ldRI .E n
  | .rra => .rra
  | .jr_NZ_e8 e => .jrCC .NZ e
  | .ld_HL_d16 w => .ldRrI .HL w
  | .ld_mHLi_A => .ldIncA
  | .inc_HL => .incRr .HL
  | .inc_H => .incR .H
  | .dec_H => .decR .H
  | .ld_H_d8 n => .ldRI .H n
  | .daa => .daa
  | .jr_Z_e8 e => .jrCC .Z e
  | .add_HL_HL => .addHL .HL
  | .ld_A_mHLi => .ldAInc
  | .dec_HL => .decRr .HL
  | .inc_L => .incR .L
  | .dec_L => .decR .L
  | .ld_L_d8 n => .ldRI .L n
  | .cpl => .cpl
  | .jr_NC_e8 e => .jrCC .NC e
  | .ld_SP_d16 w => .ldRrI .SP w
  | .ld_mHLd_A => .ldDecA
  | .inc_SP => .incRr .SP
  | .inc_mHL => .incM
  | .dec_mHL => .decM
  | .ld_mHL_d8 n => .ldMI n
  | .scf => .scf
  | .jr_C_e8 e => .jrCC .C e
  | .add_HL_SP => .addHL .SP
  | .ld_A_mHLd => .ldADec
  | .dec_SP => .decRr .SP
  | .inc_A => .incR .A
  | .dec_A => .decR .A
  | .ld_A_d8 n => .ldRI .A n
  | .ccf => .ccf
  | .ld_B_B => .ldRR .B .B
  | .ld_B_C => .ldRR .B .C
  | .ld_B_D => .ldRR .B .D
  | .ld_B_E => .ldRR .B .E
  | .ld_B_H => .ldRR .B .H
  | .ld_B_L => .ldRR .B .L
  | .ld_B_mHL => .ldRM .B
  | .ld_B_A => .ldRR .B .A
  | .ld_C_B => .ldRR .C .B
  | .ld_C_C => .ldRR .C .C
  | .ld_C_D => .ldRR .C .D
  | .ld_C_E => .ldRR .C .E
  | .ld_C_H => .ldRR .C .H
  | .ld_C_L => .ldRR .C .L
  | .ld_C_mHL => .ldRM .C
  | .ld_C_A => .ldRR .C .A
  | .ld_D_B => .ldRR .D .B
  | .ld_D_C => .ldRR .D .C
  | .ld_D_D => .ldRR .D .D
  | .ld_D_E => .ldRR .D .E
  | .ld_D_H => .ldRR .D .H
  | .ld_D_L => .ldRR .D .L
  | .ld_D_mHL => .ldRM .D
  | .ld_D_A => .ldRR .D .A
  | .ld_E_B => .ldRR .E .B
  | .ld_E_C => .ldRR .E .C
  | .ld_E_D => .ldRR .E .D
  | .ld_E_E => .ldRR .E .E
  | .ld_E_H => .ldRR .E .H
  | .ld_E_L => .ldRR .E .L
  | .ld_E_mHL => .ldRM .E
  | .ld_E_A => .ldRR .E .A
  | .ld_H_B => .ldRR .H .B
  | .ld_H_C => .ldRR .H .C
  | .ld_H_D => .ldRR .H .D
  | .ld_H_E => .ldRR .H .E
  | .ld_H_H => .ldRR .H .H
  | .ld_H_L => .ldRR .H .L
  | .ld_H_mHL => .ldRM .H
  | .ld_H_A => .ldRR .H .A
  | .ld_L_B => .ldRR .L .B
  | .ld_L_C => .ldRR .L .C
  | .ld_L_D => .ldRR .L .D
  | .ld_L_E => .ldRR .L .E
  | .ld_L_H => .ldRR .L .H
  | .ld_L_L => .ldRR .L .L
  | .ld_L_mHL => .ldRM .L
  | .ld_L_A => .ldRR .L .A
  | .ld_mHL_B => .ldMR .B
  | .ld_mHL_C => .ldMR .C
  | .ld_mHL_D => .ldMR .D
  | .ld_mHL_E => .ldMR .E
  | .ld_mHL_H => .ldMR .H
  | .ld_mHL_L => .ldMR .L
  | .halt => .halt
  | .ld_mHL_A => .ldMR .A
  | .ld_A_B => .ldRR .A .B
  | .ld_A_C => .ldRR .A .C
  | .ld_A_D => .ldRR .A .D
  | .ld_A_E => .ldRR .A .E
  | .ld_A_H => .ldRR .A .H
  | .ld_A_L => .ldRR .A .L
  | .ld_A_mHL => .ldRM .A
  | .ld_A_A => .ldRR .A .A
  | .add_A_B => .alu .add (.reg .B)
  | .add_A_C => .alu .add (.reg .C)
  | .add_A_D => .alu .add (.reg .D)
  | .add_A_E => .alu .add (.reg .E)
  | .add_A_H => .alu .add (.reg .H)
  | .add_A_L => .alu .add (.reg .L)
  | .add_A_mHL => .alu .add .mHL
  | .add_A_A => .alu .add (.reg .A)
  | .adc_A_B => .alu .adc (.reg .B)
  | .adc_A_C => .alu .adc (.reg .C)
  | .adc_A_D => .alu .adc (.reg .D)
  | .adc_A_E => .alu .adc (.reg .E)
  | .adc_A_H => .alu .adc (.reg .H)
  | .adc_A_L => .alu .adc (.reg .L)
  | .adc_A_mHL => .alu .adc .mHL
  | .adc_A_A => .alu .adc (.reg .A)
  | .sub_B => .alu .sub (.reg .B)
  | .sub_C => .alu .sub (.reg .C)
  | .sub_D => .alu .sub (.reg .D)
  | .sub_E => .alu .sub (.reg .E)
  | .sub_H => .alu .sub (.reg .H)
  | .sub_L => .alu .sub (.reg .L)
  | .sub_mHL => .alu .sub .mHL
  | .sub_A => .alu .sub (.reg .A)
  | .sbc_A_B => .alu .sbc (.reg .B)
  | .sbc_A_C => .alu .sbc (.reg .C)
  | .sbc_A_D => .alu .sbc (.reg .D)
  | .sbc_A_E => .alu .sbc (.reg .E)
  | .sbc_A_H => .alu .sbc (.reg .H)
  | .sbc_A_L => .alu .sbc (.reg .L)
  | .sbc_A_mHL => .alu .sbc .mHL
  | .sbc_A_A => .alu .sbc (.reg .A)
  | .and_B => .alu .and (.reg .B)
  | .and_C => .alu .and (.reg .C)
  | .and_D => .alu .and (.reg .D)
  | .and_E => .alu .and (.reg .E)
  | .and_H => .alu .and (.reg .H)
  | .and_L => .alu .and (.reg .L)
  | .and_mHL => .alu .and .mHL
  | .and_A => .alu .and (.reg .A)
  | .xor_B => .alu .xor (.reg .B)
  | .xor_C => .alu .xor (.reg .C)
  | .xor_D => .alu .xor (.reg .D)
  | .xor_E => .alu .xor (.reg .E)
  | .xor_H => .alu .xor (.reg .H)
  | .xor_L => .alu .xor (.reg .L)
  | .xor_mHL => .alu .xor .mHL
  | .xor_A => .alu .xor (.reg .A)
  | .or_B => .alu .or (.reg .B)
  | .or_C => .alu .or (.reg .C)
  | .or_D => .alu .or (.reg .D)
  | .or_E => .alu .or (.reg .E)
  | .or_H => .alu .or (.reg .H)
  | .or_L => .alu .or (.reg .L)
  | .or_mHL => .alu .or .mHL
  | .or_A => .alu .or (.reg .A)
  | .cp_B => .alu .cp (.reg .B)
  | .cp_C => .alu .cp (.reg .C)
  | .cp_D => .alu .cp (.reg .D)
  | .cp_E => .alu .cp (.reg .E)
  | .cp_H => .alu .cp (.reg .H)
  | .cp_L => .alu .cp (.reg .L)
  | .cp_mHL => .alu .cp .mHL
  | .cp_A => .alu .cp (.reg .A)
  | .ret_NZ => .retCC .NZ
  | .pop_BC => .pop .BC
  | .jp_NZ_a16 w => .jpCC .NZ w
  | .jp_a16 w => .jp w
  | .call_NZ_a16 w => .callCC .NZ w
  | .push_BC => .push .BC
  | .add_A_d8 n => .aluI .add n
  | .rst_00 => .rst .v00
  | .ret_Z => .retCC .Z
  | .ret => .ret
  | .jp_Z_a16 w => .jpCC .Z w
  | .call_Z_a16 w => .callCC .Z w
  | .call_a16 w => .call w
  | .adc_A_d8 n => .aluI .adc n
  | .rst_08 => .rst .v08
  | .ret_NC => .retCC .NC
  | .pop_DE => .pop .DE
  | .jp_NC_a16 w => .jpCC .NC w
  | .illegal_D3 => .illegal .xD3
  | .call_NC_a16 w => .callCC .NC w
  | .push_DE => .push .DE
  | .sub_d8 n => .aluI .sub n
  | .rst_10 => .rst .v10
  | .ret_C => .retCC .C
  | .reti => .reti
  | .jp_C_a16 w => .jpCC .C w
  | .illegal_DB => .illegal .xDB
  | .call_C_a16 w => .callCC .C w
  | .illegal_DD => .illegal .xDD
  | .sbc_A_d8 n => .aluI .sbc n
  | .rst_18 => .rst .v18
  | .ldh_ma8_A n => .ldhIA n
  | .pop_HL => .pop .HL
  | .ld_mC_A => .ldCA
  | .illegal_E3 => .illegal .xE3
  | .illegal_E4 => .illegal .xE4
  | .push_HL => .push .HL
  | .and_d8 n => .aluI .and n
  | .rst_20 => .rst .v20
  | .add_SP_e8 e => .addSPe e
  | .jp_HL => .jpHL
  | .ld_ma16_A w => .ldAbsA w
  | .illegal_EB => .illegal .xEB
  | .illegal_EC => .illegal .xEC
  | .illegal_ED => .illegal .xED
  | .xor_d8 n => .aluI .xor n
  | .rst_28 => .rst .v28
  | .ldh_A_ma8 n => .ldhAI n
  | .pop_AF => .pop .AF
  | .ld_A_mC => .ldAC
  | .di => .di
  | .illegal_F4 => .illegal .xF4
  | .push_AF => .push .AF
  | .or_d8 n => .aluI .or n
  | .rst_30 => .rst .v30
  | .ld_HL_SPe8 e => .ldHLSPe e
  | .ld_SP_HL => .ldSPHL
  | .ld_A_ma16 w => .ldAAbs w
  | .ei => .ei
  | .illegal_FC => .illegal .xFC
  | .illegal_FD => .illegal .xFD
  | .cp_d8 n => .aluI .cp n
  | .rst_38 => .rst .v38
  | .rlc_B => .rot .rlc (.reg .B)
  | .rlc_C => .rot .rlc (.reg .C)
  | .rlc_D => .rot .rlc (.reg .D)
  | .rlc_E => .rot .rlc (.reg .E)
  | .rlc_H => .rot .rlc (.reg .H)
  | .rlc_L => .rot .rlc (.reg .L)
  | .rlc_mHL => .rot .rlc .mHL
  | .rlc_A => .rot .rlc (.reg .A)
  | .rrc_B => .rot .rrc (.reg .B)
  | .rrc_C => .rot .rrc (.reg .C)
  | .rrc_D => .rot .rrc (.reg .D)
  | .rrc_E => .rot .rrc (.reg .E)
  | .rrc_H => .rot .rrc (.reg .H)
  | .rrc_L => .rot .rrc (.reg .L)
  | .rrc_mHL => .rot .rrc .mHL
  | .rrc_A => .rot .rrc (.reg .A)
  | .rl_B => .rot .rl (.reg .B)
  | .rl_C => .rot .rl (.reg .C)
  | .rl_D => .rot .rl (.reg .D)
  | .rl_E => .rot .rl (.reg .E)
  | .rl_H => .rot .rl (.reg .H)
  | .rl_L => .rot .rl (.reg .L)
  | .rl_mHL => .rot .rl .mHL
  | .rl_A => .rot .rl (.reg .A)
  | .rr_B => .rot .rr (.reg .B)
  | .rr_C => .rot .rr (.reg .C)
  | .rr_D => .rot .rr (.reg .D)
  | .rr_E => .rot .rr (.reg .E)
  | .rr_H => .rot .rr (.reg .H)
  | .rr_L => .rot .rr (.reg .L)
  | .rr_mHL => .rot .rr .mHL
  | .rr_A => .rot .rr (.reg .A)
  | .sla_B => .rot .sla (.reg .B)
  | .sla_C => .rot .sla (.reg .C)
  | .sla_D => .rot .sla (.reg .D)
  | .sla_E => .rot .sla (.reg .E)
  | .sla_H => .rot .sla (.reg .H)
  | .sla_L => .rot .sla (.reg .L)
  | .sla_mHL => .rot .sla .mHL
  | .sla_A => .rot .sla (.reg .A)
  | .sra_B => .rot .sra (.reg .B)
  | .sra_C => .rot .sra (.reg .C)
  | .sra_D => .rot .sra (.reg .D)
  | .sra_E => .rot .sra (.reg .E)
  | .sra_H => .rot .sra (.reg .H)
  | .sra_L => .rot .sra (.reg .L)
  | .sra_mHL => .rot .sra .mHL
  | .sra_A => .rot .sra (.reg .A)
  | .swap_B => .rot .swap (.reg .B)
  | .swap_C => .rot .swap (.reg .C)
  | .swap_D => .rot .swap (.reg .D)
  | .swap_E => .rot .swap (.reg .E)
  | .swap_H => .rot .swap (.reg .H)
  | .swap_L => .rot .swap (.reg .L)
  | .swap_mHL => .rot .swap .mHL
  | .swap_A => .rot .swap (.reg .A)
  | .srl_B => .rot .srl (.reg .B)
  | .srl_C => .rot .srl (.reg .C)
  | .srl_D => .rot .srl (.reg .D)
  | .srl_E => .rot .srl (.reg .E)
  | .srl_H => .rot .srl (.reg .H)
  | .srl_L => .rot .srl (.reg .L)
  | .srl_mHL => .rot .srl .mHL
  | .srl_A => .rot .srl (.reg .A)
  | .bit_0_B => .bit .b0 (.reg .B)
  | .bit_0_C => .bit .b0 (.reg .C)
  | .bit_0_D => .bit .b0 (.reg .D)
  | .bit_0_E => .bit .b0 (.reg .E)
  | .bit_0_H => .bit .b0 (.reg .H)
  | .bit_0_L => .bit .b0 (.reg .L)
  | .bit_0_mHL => .bit .b0 .mHL
  | .bit_0_A => .bit .b0 (.reg .A)
  | .bit_1_B => .bit .b1 (.reg .B)
  | .bit_1_C => .bit .b1 (.reg .C)
  | .bit_1_D => .bit .b1 (.reg .D)
  | .bit_1_E => .bit .b1 (.reg .E)
  | .bit_1_H => .bit .b1 (.reg .H)
  | .bit_1_L => .bit .b1 (.reg .L)
  | .bit_1_mHL => .bit .b1 .mHL
  | .bit_1_A => .bit .b1 (.reg .A)
  | .bit_2_B => .bit .b2 (.reg .B)
  | .bit_2_C => .bit .b2 (.reg .C)
  | .bit_2_D => .bit .b2 (.reg .D)
  | .bit_2_E => .bit .b2 (.reg .E)
  | .bit_2_H => .bit .b2 (.reg .H)
  | .bit_2_L => .bit .b2 (.reg .L)
  | .bit_2_mHL => .bit .b2 .mHL
  | .bit_2_A => .bit .b2 (.reg .A)
  | .bit_3_B => .bit .b3 (.reg .B)
  | .bit_3_C => .bit .b3 (.reg .C)
  | .bit_3_D => .bit .b3 (.reg .D)
  | .bit_3_E => .bit .b3 (.reg .E)
  | .bit_3_H => .bit .b3 (.reg .H)
  | .bit_3_L => .bit .b3 (.reg .L)
  | .bit_3_mHL => .bit .b3 .mHL
  | .bit_3_A => .bit .b3 (.reg .A)
  | .bit_4_B => .bit .b4 (.reg .B)
  | .bit_4_C => .bit .b4 (.reg .C)
  | .bit_4_D => .bit .b4 (.reg .D)
  | .bit_4_E => .bit .b4 (.reg .E)
  | .bit_4_H => .bit .b4 (.reg .H)
  | .bit_4_L => .bit .b4 (.reg .L)
  | .bit_4_mHL => .bit .b4 .mHL
  | .bit_4_A => .bit .b4 (.reg .A)
  | .bit_5_B => .bit .b5 (.reg .B)
  | .bit_5_C => .bit .b5 (.reg .C)
  | .bit_5_D => .bit .b5 (.reg .D)
  | .bit_5_E => .bit .b5 (.reg .E)
  | .bit_5_H => .bit .b5 (.reg .H)
  | .bit_5_L => .bit .b5 (.reg .L)
  | .bit_5_mHL => .bit .b5 .mHL
  | .bit_5_A => .bit .b5 (.reg .A)
  | .bit_6_B => .bit .b6 (.reg .B)
  | .bit_6_C => .bit .b6 (.reg .C)
  | .bit_6_D => .bit .b6 (.reg .D)
  | .bit_6_E => .bit .b6 (.reg .E)
  | .bit_6_H => .bit .b6 (.reg .H)
  | .bit_6_L => .bit .b6 (.reg .L)
  | .bit_6_mHL => .bit .b6 .mHL
  | .bit_6_A => .bit .b6 (.reg .A)
  | .bit_7_B => .bit .b7 (.reg .B)
  | .bit_7_C => .bit .b7 (.reg .C)
  | .bit_7_D => .bit .b7 (.reg .D)
  | .bit_7_E => .bit .b7 (.reg .E)
  | .bit_7_H => .bit .b7 (.reg .H)
  | .bit_7_L => .bit .b7 (.reg .L)
  | .bit_7_mHL => .bit .b7 .mHL
  | .bit_7_A => .bit .b7 (.reg .A)
  | .res_0_B => .res .b0 (.reg .B)
  | .res_0_C => .res .b0 (.reg .C)
  | .res_0_D => .res .b0 (.reg .D)
  | .res_0_E => .res .b0 (.reg .E)
  | .res_0_H => .res .b0 (.reg .H)
  | .res_0_L => .res .b0 (.reg .L)
  | .res_0_mHL => .res .b0 .mHL
  | .res_0_A => .res .b0 (.reg .A)
  | .res_1_B => .res .b1 (.reg .B)
  | .res_1_C => .res .b1 (.reg .C)
  | .res_1_D => .res .b1 (.reg .D)
  | .res_1_E => .res .b1 (.reg .E)
  | .res_1_H => .res .b1 (.reg .H)
  | .res_1_L => .res .b1 (.reg .L)
  | .res_1_mHL => .res .b1 .mHL
  | .res_1_A => .res .b1 (.reg .A)
  | .res_2_B => .res .b2 (.reg .B)
  | .res_2_C => .res .b2 (.reg .C)
  | .res_2_D => .res .b2 (.reg .D)
  | .res_2_E => .res .b2 (.reg .E)
  | .res_2_H => .res .b2 (.reg .H)
  | .res_2_L => .res .b2 (.reg .L)
  | .res_2_mHL => .res .b2 .mHL
  | .res_2_A => .res .b2 (.reg .A)
  | .res_3_B => .res .b3 (.reg .B)
  | .res_3_C => .res .b3 (.reg .C)
  | .res_3_D => .res .b3 (.reg .D)
  | .res_3_E => .res .b3 (.reg .E)
  | .res_3_H => .res .b3 (.reg .H)
  | .res_3_L => .res .b3 (.reg .L)
  | .res_3_mHL => .res .b3 .mHL
  | .res_3_A => .res .b3 (.reg .A)
  | .res_4_B => .res .b4 (.reg .B)
  | .res_4_C => .res .b4 (.reg .C)
  | .res_4_D => .res .b4 (.reg .D)
  | .res_4_E => .res .b4 (.reg .E)
  | .res_4_H => .res .b4 (.reg .H)
  | .res_4_L => .res .b4 (.reg .L)
  | .res_4_mHL => .res .b4 .mHL
  | .res_4_A => .res .b4 (.reg .A)
  | .res_5_B => .res .b5 (.reg .B)
  | .res_5_C => .res .b5 (.reg .C)
  | .res_5_D => .res .b5 (.reg .D)
  | .res_5_E => .res .b5 (.reg .E)
  | .res_5_H => .res .b5 (.reg .H)
  | .res_5_L => .res .b5 (.reg .L)
  | .res_5_mHL => .res .b5 .mHL
  | .res_5_A => .res .b5 (.reg .A)
  | .res_6_B => .res .b6 (.reg .B)
  | .res_6_C => .res .b6 (.reg .C)
  | .res_6_D => .res .b6 (.reg .D)
  | .res_6_E => .res .b6 (.reg .E)
  | .res_6_H => .res .b6 (.reg .H)
  | .res_6_L => .res .b6 (.reg .L)
  | .res_6_mHL => .res .b6 .mHL
  | .res_6_A => .res .b6 (.reg .A)
  | .res_7_B => .res .b7 (.reg .B)
  | .res_7_C => .res .b7 (.reg .C)
  | .res_7_D => .res .b7 (.reg .D)
  | .res_7_E => .res .b7 (.reg .E)
  | .res_7_H => .res .b7 (.reg .H)
  | .res_7_L => .res .b7 (.reg .L)
  | .res_7_mHL => .res .b7 .mHL
  | .res_7_A => .res .b7 (.reg .A)
  | .set_0_B => .set .b0 (.reg .B)
  | .set_0_C => .set .b0 (.reg .C)
  | .set_0_D => .set .b0 (.reg .D)
  | .set_0_E => .set .b0 (.reg .E)
  | .set_0_H => .set .b0 (.reg .H)
  | .set_0_L => .set .b0 (.reg .L)
  | .set_0_mHL => .set .b0 .mHL
  | .set_0_A => .set .b0 (.reg .A)
  | .set_1_B => .set .b1 (.reg .B)
  | .set_1_C => .set .b1 (.reg .C)
  | .set_1_D => .set .b1 (.reg .D)
  | .set_1_E => .set .b1 (.reg .E)
  | .set_1_H => .set .b1 (.reg .H)
  | .set_1_L => .set .b1 (.reg .L)
  | .set_1_mHL => .set .b1 .mHL
  | .set_1_A => .set .b1 (.reg .A)
  | .set_2_B => .set .b2 (.reg .B)
  | .set_2_C => .set .b2 (.reg .C)
  | .set_2_D => .set .b2 (.reg .D)
  | .set_2_E => .set .b2 (.reg .E)
  | .set_2_H => .set .b2 (.reg .H)
  | .set_2_L => .set .b2 (.reg .L)
  | .set_2_mHL => .set .b2 .mHL
  | .set_2_A => .set .b2 (.reg .A)
  | .set_3_B => .set .b3 (.reg .B)
  | .set_3_C => .set .b3 (.reg .C)
  | .set_3_D => .set .b3 (.reg .D)
  | .set_3_E => .set .b3 (.reg .E)
  | .set_3_H => .set .b3 (.reg .H)
  | .set_3_L => .set .b3 (.reg .L)
  | .set_3_mHL => .set .b3 .mHL
  | .set_3_A => .set .b3 (.reg .A)
  | .set_4_B => .set .b4 (.reg .B)
  | .set_4_C => .set .b4 (.reg .C)
  | .set_4_D => .set .b4 (.reg .D)
  | .set_4_E => .set .b4 (.reg .E)
  | .set_4_H => .set .b4 (.reg .H)
  | .set_4_L => .set .b4 (.reg .L)
  | .set_4_mHL => .set .b4 .mHL
  | .set_4_A => .set .b4 (.reg .A)
  | .set_5_B => .set .b5 (.reg .B)
  | .set_5_C => .set .b5 (.reg .C)
  | .set_5_D => .set .b5 (.reg .D)
  | .set_5_E => .set .b5 (.reg .E)
  | .set_5_H => .set .b5 (.reg .H)
  | .set_5_L => .set .b5 (.reg .L)
  | .set_5_mHL => .set .b5 .mHL
  | .set_5_A => .set .b5 (.reg .A)
  | .set_6_B => .set .b6 (.reg .B)
  | .set_6_C => .set .b6 (.reg .C)
  | .set_6_D => .set .b6 (.reg .D)
  | .set_6_E => .set .b6 (.reg .E)
  | .set_6_H => .set .b6 (.reg .H)
  | .set_6_L => .set .b6 (.reg .L)
  | .set_6_mHL => .set .b6 .mHL
  | .set_6_A => .set .b6 (.reg .A)
  | .set_7_B => .set .b7 (.reg .B)
  | .set_7_C => .set .b7 (.reg .C)
  | .set_7_D => .set .b7 (.reg .D)
  | .set_7_E => .set .b7 (.reg .E)
  | .set_7_H => .set .b7 (.reg .H)
  | .set_7_L => .set .b7 (.reg .L)
  | .set_7_mHL => .set .b7 .mHL
  | .set_7_A => .set .b7 (.reg .A)

/-- The row of LD r,r' (R117, R131). -/
def ldRRInstr : Reg8 → Reg8 → Instr
  | .B, .B => .ld_B_B
  | .B, .C => .ld_B_C
  | .B, .D => .ld_B_D
  | .B, .E => .ld_B_E
  | .B, .H => .ld_B_H
  | .B, .L => .ld_B_L
  | .B, .A => .ld_B_A
  | .C, .B => .ld_C_B
  | .C, .C => .ld_C_C
  | .C, .D => .ld_C_D
  | .C, .E => .ld_C_E
  | .C, .H => .ld_C_H
  | .C, .L => .ld_C_L
  | .C, .A => .ld_C_A
  | .D, .B => .ld_D_B
  | .D, .C => .ld_D_C
  | .D, .D => .ld_D_D
  | .D, .E => .ld_D_E
  | .D, .H => .ld_D_H
  | .D, .L => .ld_D_L
  | .D, .A => .ld_D_A
  | .E, .B => .ld_E_B
  | .E, .C => .ld_E_C
  | .E, .D => .ld_E_D
  | .E, .E => .ld_E_E
  | .E, .H => .ld_E_H
  | .E, .L => .ld_E_L
  | .E, .A => .ld_E_A
  | .H, .B => .ld_H_B
  | .H, .C => .ld_H_C
  | .H, .D => .ld_H_D
  | .H, .E => .ld_H_E
  | .H, .H => .ld_H_H
  | .H, .L => .ld_H_L
  | .H, .A => .ld_H_A
  | .L, .B => .ld_L_B
  | .L, .C => .ld_L_C
  | .L, .D => .ld_L_D
  | .L, .E => .ld_L_E
  | .L, .H => .ld_L_H
  | .L, .L => .ld_L_L
  | .L, .A => .ld_L_A
  | .A, .B => .ld_A_B
  | .A, .C => .ld_A_C
  | .A, .D => .ld_A_D
  | .A, .E => .ld_A_E
  | .A, .H => .ld_A_H
  | .A, .L => .ld_A_L
  | .A, .A => .ld_A_A

/-- The row of the ALU operation o on A and an operand (R118). -/
def aluInstr : AluOp → Operand8 → Instr
  | .add, (.reg .B) => .add_A_B
  | .add, (.reg .C) => .add_A_C
  | .add, (.reg .D) => .add_A_D
  | .add, (.reg .E) => .add_A_E
  | .add, (.reg .H) => .add_A_H
  | .add, (.reg .L) => .add_A_L
  | .add, .mHL => .add_A_mHL
  | .add, (.reg .A) => .add_A_A
  | .adc, (.reg .B) => .adc_A_B
  | .adc, (.reg .C) => .adc_A_C
  | .adc, (.reg .D) => .adc_A_D
  | .adc, (.reg .E) => .adc_A_E
  | .adc, (.reg .H) => .adc_A_H
  | .adc, (.reg .L) => .adc_A_L
  | .adc, .mHL => .adc_A_mHL
  | .adc, (.reg .A) => .adc_A_A
  | .sub, (.reg .B) => .sub_B
  | .sub, (.reg .C) => .sub_C
  | .sub, (.reg .D) => .sub_D
  | .sub, (.reg .E) => .sub_E
  | .sub, (.reg .H) => .sub_H
  | .sub, (.reg .L) => .sub_L
  | .sub, .mHL => .sub_mHL
  | .sub, (.reg .A) => .sub_A
  | .sbc, (.reg .B) => .sbc_A_B
  | .sbc, (.reg .C) => .sbc_A_C
  | .sbc, (.reg .D) => .sbc_A_D
  | .sbc, (.reg .E) => .sbc_A_E
  | .sbc, (.reg .H) => .sbc_A_H
  | .sbc, (.reg .L) => .sbc_A_L
  | .sbc, .mHL => .sbc_A_mHL
  | .sbc, (.reg .A) => .sbc_A_A
  | .and, (.reg .B) => .and_B
  | .and, (.reg .C) => .and_C
  | .and, (.reg .D) => .and_D
  | .and, (.reg .E) => .and_E
  | .and, (.reg .H) => .and_H
  | .and, (.reg .L) => .and_L
  | .and, .mHL => .and_mHL
  | .and, (.reg .A) => .and_A
  | .xor, (.reg .B) => .xor_B
  | .xor, (.reg .C) => .xor_C
  | .xor, (.reg .D) => .xor_D
  | .xor, (.reg .E) => .xor_E
  | .xor, (.reg .H) => .xor_H
  | .xor, (.reg .L) => .xor_L
  | .xor, .mHL => .xor_mHL
  | .xor, (.reg .A) => .xor_A
  | .or, (.reg .B) => .or_B
  | .or, (.reg .C) => .or_C
  | .or, (.reg .D) => .or_D
  | .or, (.reg .E) => .or_E
  | .or, (.reg .H) => .or_H
  | .or, (.reg .L) => .or_L
  | .or, .mHL => .or_mHL
  | .or, (.reg .A) => .or_A
  | .cp, (.reg .B) => .cp_B
  | .cp, (.reg .C) => .cp_C
  | .cp, (.reg .D) => .cp_D
  | .cp, (.reg .E) => .cp_E
  | .cp, (.reg .H) => .cp_H
  | .cp, (.reg .L) => .cp_L
  | .cp, .mHL => .cp_mHL
  | .cp, (.reg .A) => .cp_A

/-- The row of the ALU operation o on A and d8 (R119). -/
def aluIInstr : AluOp → Byte → Instr
  | .add, n => .add_A_d8 n
  | .adc, n => .adc_A_d8 n
  | .sub, n => .sub_d8 n
  | .sbc, n => .sbc_A_d8 n
  | .and, n => .and_d8 n
  | .xor, n => .xor_d8 n
  | .or, n => .or_d8 n
  | .cp, n => .cp_d8 n

/-- The row of a prefixed rotate or shift (R120). -/
def rotInstr : RotOp → Operand8 → Instr
  | .rlc, (.reg .B) => .rlc_B
  | .rlc, (.reg .C) => .rlc_C
  | .rlc, (.reg .D) => .rlc_D
  | .rlc, (.reg .E) => .rlc_E
  | .rlc, (.reg .H) => .rlc_H
  | .rlc, (.reg .L) => .rlc_L
  | .rlc, .mHL => .rlc_mHL
  | .rlc, (.reg .A) => .rlc_A
  | .rrc, (.reg .B) => .rrc_B
  | .rrc, (.reg .C) => .rrc_C
  | .rrc, (.reg .D) => .rrc_D
  | .rrc, (.reg .E) => .rrc_E
  | .rrc, (.reg .H) => .rrc_H
  | .rrc, (.reg .L) => .rrc_L
  | .rrc, .mHL => .rrc_mHL
  | .rrc, (.reg .A) => .rrc_A
  | .rl, (.reg .B) => .rl_B
  | .rl, (.reg .C) => .rl_C
  | .rl, (.reg .D) => .rl_D
  | .rl, (.reg .E) => .rl_E
  | .rl, (.reg .H) => .rl_H
  | .rl, (.reg .L) => .rl_L
  | .rl, .mHL => .rl_mHL
  | .rl, (.reg .A) => .rl_A
  | .rr, (.reg .B) => .rr_B
  | .rr, (.reg .C) => .rr_C
  | .rr, (.reg .D) => .rr_D
  | .rr, (.reg .E) => .rr_E
  | .rr, (.reg .H) => .rr_H
  | .rr, (.reg .L) => .rr_L
  | .rr, .mHL => .rr_mHL
  | .rr, (.reg .A) => .rr_A
  | .sla, (.reg .B) => .sla_B
  | .sla, (.reg .C) => .sla_C
  | .sla, (.reg .D) => .sla_D
  | .sla, (.reg .E) => .sla_E
  | .sla, (.reg .H) => .sla_H
  | .sla, (.reg .L) => .sla_L
  | .sla, .mHL => .sla_mHL
  | .sla, (.reg .A) => .sla_A
  | .sra, (.reg .B) => .sra_B
  | .sra, (.reg .C) => .sra_C
  | .sra, (.reg .D) => .sra_D
  | .sra, (.reg .E) => .sra_E
  | .sra, (.reg .H) => .sra_H
  | .sra, (.reg .L) => .sra_L
  | .sra, .mHL => .sra_mHL
  | .sra, (.reg .A) => .sra_A
  | .swap, (.reg .B) => .swap_B
  | .swap, (.reg .C) => .swap_C
  | .swap, (.reg .D) => .swap_D
  | .swap, (.reg .E) => .swap_E
  | .swap, (.reg .H) => .swap_H
  | .swap, (.reg .L) => .swap_L
  | .swap, .mHL => .swap_mHL
  | .swap, (.reg .A) => .swap_A
  | .srl, (.reg .B) => .srl_B
  | .srl, (.reg .C) => .srl_C
  | .srl, (.reg .D) => .srl_D
  | .srl, (.reg .E) => .srl_E
  | .srl, (.reg .H) => .srl_H
  | .srl, (.reg .L) => .srl_L
  | .srl, .mHL => .srl_mHL
  | .srl, (.reg .A) => .srl_A

/-- The row of BIT k,s (R120). -/
def bitInstr : BitNo → Operand8 → Instr
  | .b0, (.reg .B) => .bit_0_B
  | .b0, (.reg .C) => .bit_0_C
  | .b0, (.reg .D) => .bit_0_D
  | .b0, (.reg .E) => .bit_0_E
  | .b0, (.reg .H) => .bit_0_H
  | .b0, (.reg .L) => .bit_0_L
  | .b0, .mHL => .bit_0_mHL
  | .b0, (.reg .A) => .bit_0_A
  | .b1, (.reg .B) => .bit_1_B
  | .b1, (.reg .C) => .bit_1_C
  | .b1, (.reg .D) => .bit_1_D
  | .b1, (.reg .E) => .bit_1_E
  | .b1, (.reg .H) => .bit_1_H
  | .b1, (.reg .L) => .bit_1_L
  | .b1, .mHL => .bit_1_mHL
  | .b1, (.reg .A) => .bit_1_A
  | .b2, (.reg .B) => .bit_2_B
  | .b2, (.reg .C) => .bit_2_C
  | .b2, (.reg .D) => .bit_2_D
  | .b2, (.reg .E) => .bit_2_E
  | .b2, (.reg .H) => .bit_2_H
  | .b2, (.reg .L) => .bit_2_L
  | .b2, .mHL => .bit_2_mHL
  | .b2, (.reg .A) => .bit_2_A
  | .b3, (.reg .B) => .bit_3_B
  | .b3, (.reg .C) => .bit_3_C
  | .b3, (.reg .D) => .bit_3_D
  | .b3, (.reg .E) => .bit_3_E
  | .b3, (.reg .H) => .bit_3_H
  | .b3, (.reg .L) => .bit_3_L
  | .b3, .mHL => .bit_3_mHL
  | .b3, (.reg .A) => .bit_3_A
  | .b4, (.reg .B) => .bit_4_B
  | .b4, (.reg .C) => .bit_4_C
  | .b4, (.reg .D) => .bit_4_D
  | .b4, (.reg .E) => .bit_4_E
  | .b4, (.reg .H) => .bit_4_H
  | .b4, (.reg .L) => .bit_4_L
  | .b4, .mHL => .bit_4_mHL
  | .b4, (.reg .A) => .bit_4_A
  | .b5, (.reg .B) => .bit_5_B
  | .b5, (.reg .C) => .bit_5_C
  | .b5, (.reg .D) => .bit_5_D
  | .b5, (.reg .E) => .bit_5_E
  | .b5, (.reg .H) => .bit_5_H
  | .b5, (.reg .L) => .bit_5_L
  | .b5, .mHL => .bit_5_mHL
  | .b5, (.reg .A) => .bit_5_A
  | .b6, (.reg .B) => .bit_6_B
  | .b6, (.reg .C) => .bit_6_C
  | .b6, (.reg .D) => .bit_6_D
  | .b6, (.reg .E) => .bit_6_E
  | .b6, (.reg .H) => .bit_6_H
  | .b6, (.reg .L) => .bit_6_L
  | .b6, .mHL => .bit_6_mHL
  | .b6, (.reg .A) => .bit_6_A
  | .b7, (.reg .B) => .bit_7_B
  | .b7, (.reg .C) => .bit_7_C
  | .b7, (.reg .D) => .bit_7_D
  | .b7, (.reg .E) => .bit_7_E
  | .b7, (.reg .H) => .bit_7_H
  | .b7, (.reg .L) => .bit_7_L
  | .b7, .mHL => .bit_7_mHL
  | .b7, (.reg .A) => .bit_7_A

/-- The row of RES k,s (R120). -/
def resInstr : BitNo → Operand8 → Instr
  | .b0, (.reg .B) => .res_0_B
  | .b0, (.reg .C) => .res_0_C
  | .b0, (.reg .D) => .res_0_D
  | .b0, (.reg .E) => .res_0_E
  | .b0, (.reg .H) => .res_0_H
  | .b0, (.reg .L) => .res_0_L
  | .b0, .mHL => .res_0_mHL
  | .b0, (.reg .A) => .res_0_A
  | .b1, (.reg .B) => .res_1_B
  | .b1, (.reg .C) => .res_1_C
  | .b1, (.reg .D) => .res_1_D
  | .b1, (.reg .E) => .res_1_E
  | .b1, (.reg .H) => .res_1_H
  | .b1, (.reg .L) => .res_1_L
  | .b1, .mHL => .res_1_mHL
  | .b1, (.reg .A) => .res_1_A
  | .b2, (.reg .B) => .res_2_B
  | .b2, (.reg .C) => .res_2_C
  | .b2, (.reg .D) => .res_2_D
  | .b2, (.reg .E) => .res_2_E
  | .b2, (.reg .H) => .res_2_H
  | .b2, (.reg .L) => .res_2_L
  | .b2, .mHL => .res_2_mHL
  | .b2, (.reg .A) => .res_2_A
  | .b3, (.reg .B) => .res_3_B
  | .b3, (.reg .C) => .res_3_C
  | .b3, (.reg .D) => .res_3_D
  | .b3, (.reg .E) => .res_3_E
  | .b3, (.reg .H) => .res_3_H
  | .b3, (.reg .L) => .res_3_L
  | .b3, .mHL => .res_3_mHL
  | .b3, (.reg .A) => .res_3_A
  | .b4, (.reg .B) => .res_4_B
  | .b4, (.reg .C) => .res_4_C
  | .b4, (.reg .D) => .res_4_D
  | .b4, (.reg .E) => .res_4_E
  | .b4, (.reg .H) => .res_4_H
  | .b4, (.reg .L) => .res_4_L
  | .b4, .mHL => .res_4_mHL
  | .b4, (.reg .A) => .res_4_A
  | .b5, (.reg .B) => .res_5_B
  | .b5, (.reg .C) => .res_5_C
  | .b5, (.reg .D) => .res_5_D
  | .b5, (.reg .E) => .res_5_E
  | .b5, (.reg .H) => .res_5_H
  | .b5, (.reg .L) => .res_5_L
  | .b5, .mHL => .res_5_mHL
  | .b5, (.reg .A) => .res_5_A
  | .b6, (.reg .B) => .res_6_B
  | .b6, (.reg .C) => .res_6_C
  | .b6, (.reg .D) => .res_6_D
  | .b6, (.reg .E) => .res_6_E
  | .b6, (.reg .H) => .res_6_H
  | .b6, (.reg .L) => .res_6_L
  | .b6, .mHL => .res_6_mHL
  | .b6, (.reg .A) => .res_6_A
  | .b7, (.reg .B) => .res_7_B
  | .b7, (.reg .C) => .res_7_C
  | .b7, (.reg .D) => .res_7_D
  | .b7, (.reg .E) => .res_7_E
  | .b7, (.reg .H) => .res_7_H
  | .b7, (.reg .L) => .res_7_L
  | .b7, .mHL => .res_7_mHL
  | .b7, (.reg .A) => .res_7_A

/-- The row of SET k,s (R120). -/
def setInstr : BitNo → Operand8 → Instr
  | .b0, (.reg .B) => .set_0_B
  | .b0, (.reg .C) => .set_0_C
  | .b0, (.reg .D) => .set_0_D
  | .b0, (.reg .E) => .set_0_E
  | .b0, (.reg .H) => .set_0_H
  | .b0, (.reg .L) => .set_0_L
  | .b0, .mHL => .set_0_mHL
  | .b0, (.reg .A) => .set_0_A
  | .b1, (.reg .B) => .set_1_B
  | .b1, (.reg .C) => .set_1_C
  | .b1, (.reg .D) => .set_1_D
  | .b1, (.reg .E) => .set_1_E
  | .b1, (.reg .H) => .set_1_H
  | .b1, (.reg .L) => .set_1_L
  | .b1, .mHL => .set_1_mHL
  | .b1, (.reg .A) => .set_1_A
  | .b2, (.reg .B) => .set_2_B
  | .b2, (.reg .C) => .set_2_C
  | .b2, (.reg .D) => .set_2_D
  | .b2, (.reg .E) => .set_2_E
  | .b2, (.reg .H) => .set_2_H
  | .b2, (.reg .L) => .set_2_L
  | .b2, .mHL => .set_2_mHL
  | .b2, (.reg .A) => .set_2_A
  | .b3, (.reg .B) => .set_3_B
  | .b3, (.reg .C) => .set_3_C
  | .b3, (.reg .D) => .set_3_D
  | .b3, (.reg .E) => .set_3_E
  | .b3, (.reg .H) => .set_3_H
  | .b3, (.reg .L) => .set_3_L
  | .b3, .mHL => .set_3_mHL
  | .b3, (.reg .A) => .set_3_A
  | .b4, (.reg .B) => .set_4_B
  | .b4, (.reg .C) => .set_4_C
  | .b4, (.reg .D) => .set_4_D
  | .b4, (.reg .E) => .set_4_E
  | .b4, (.reg .H) => .set_4_H
  | .b4, (.reg .L) => .set_4_L
  | .b4, .mHL => .set_4_mHL
  | .b4, (.reg .A) => .set_4_A
  | .b5, (.reg .B) => .set_5_B
  | .b5, (.reg .C) => .set_5_C
  | .b5, (.reg .D) => .set_5_D
  | .b5, (.reg .E) => .set_5_E
  | .b5, (.reg .H) => .set_5_H
  | .b5, (.reg .L) => .set_5_L
  | .b5, .mHL => .set_5_mHL
  | .b5, (.reg .A) => .set_5_A
  | .b6, (.reg .B) => .set_6_B
  | .b6, (.reg .C) => .set_6_C
  | .b6, (.reg .D) => .set_6_D
  | .b6, (.reg .E) => .set_6_E
  | .b6, (.reg .H) => .set_6_H
  | .b6, (.reg .L) => .set_6_L
  | .b6, .mHL => .set_6_mHL
  | .b6, (.reg .A) => .set_6_A
  | .b7, (.reg .B) => .set_7_B
  | .b7, (.reg .C) => .set_7_C
  | .b7, (.reg .D) => .set_7_D
  | .b7, (.reg .E) => .set_7_E
  | .b7, (.reg .H) => .set_7_H
  | .b7, (.reg .L) => .set_7_L
  | .b7, .mHL => .set_7_mHL
  | .b7, (.reg .A) => .set_7_A

/-- The instruction of a form: the inverse of `Instr.form` (Laws/Forms.lean). -/
def Form.instr : Form → Instr
  | .ldRR x y => ldRRInstr x y
  | .alu x y => aluInstr x y
  | .aluI x y => aluIInstr x y
  | .rot x y => rotInstr x y
  | .bit x y => bitInstr x y
  | .res x y => resInstr x y
  | .set x y => setInstr x y
  | .nop => .nop
  | .ldRrI .BC w => .ld_BC_d16 w
  | .ldIndA .BC => .ld_mBC_A
  | .incRr .BC => .inc_BC
  | .incR .B => .inc_B
  | .decR .B => .dec_B
  | .ldRI .B n => .ld_B_d8 n
  | .rlca => .rlca
  | .ldAbsSP w => .ld_ma16_SP w
  | .addHL .BC => .add_HL_BC
  | .ldAInd .BC => .ld_A_mBC
  | .decRr .BC => .dec_BC
  | .incR .C => .inc_C
  | .decR .C => .dec_C
  | .ldRI .C n => .ld_C_d8 n
  | .rrca => .rrca
  | .stop => .stop
  | .ldRrI .DE w => .ld_DE_d16 w
  | .ldIndA .DE => .ld_mDE_A
  | .incRr .DE => .inc_DE
  | .incR .D => .inc_D
  | .decR .D => .dec_D
  | .ldRI .D n => .ld_D_d8 n
  | .rla => .rla
  | .jr e => .jr_e8 e
  | .addHL .DE => .add_HL_DE
  | .ldAInd .DE => .ld_A_mDE
  | .decRr .DE => .dec_DE
  | .incR .E => .inc_E
  | .decR .E => .dec_E
  | .ldRI .E n => .ld_E_d8 n
  | .rra => .rra
  | .jrCC .NZ e => .jr_NZ_e8 e
  | .ldRrI .HL w => .ld_HL_d16 w
  | .ldIncA => .ld_mHLi_A
  | .incRr .HL => .inc_HL
  | .incR .H => .inc_H
  | .decR .H => .dec_H
  | .ldRI .H n => .ld_H_d8 n
  | .daa => .daa
  | .jrCC .Z e => .jr_Z_e8 e
  | .addHL .HL => .add_HL_HL
  | .ldAInc => .ld_A_mHLi
  | .decRr .HL => .dec_HL
  | .incR .L => .inc_L
  | .decR .L => .dec_L
  | .ldRI .L n => .ld_L_d8 n
  | .cpl => .cpl
  | .jrCC .NC e => .jr_NC_e8 e
  | .ldRrI .SP w => .ld_SP_d16 w
  | .ldDecA => .ld_mHLd_A
  | .incRr .SP => .inc_SP
  | .incM => .inc_mHL
  | .decM => .dec_mHL
  | .ldMI n => .ld_mHL_d8 n
  | .scf => .scf
  | .jrCC .C e => .jr_C_e8 e
  | .addHL .SP => .add_HL_SP
  | .ldADec => .ld_A_mHLd
  | .decRr .SP => .dec_SP
  | .incR .A => .inc_A
  | .decR .A => .dec_A
  | .ldRI .A n => .ld_A_d8 n
  | .ccf => .ccf
  | .ldRM .B => .ld_B_mHL
  | .ldRM .C => .ld_C_mHL
  | .ldRM .D => .ld_D_mHL
  | .ldRM .E => .ld_E_mHL
  | .ldRM .H => .ld_H_mHL
  | .ldRM .L => .ld_L_mHL
  | .ldMR .B => .ld_mHL_B
  | .ldMR .C => .ld_mHL_C
  | .ldMR .D => .ld_mHL_D
  | .ldMR .E => .ld_mHL_E
  | .ldMR .H => .ld_mHL_H
  | .ldMR .L => .ld_mHL_L
  | .halt => .halt
  | .ldMR .A => .ld_mHL_A
  | .ldRM .A => .ld_A_mHL
  | .retCC .NZ => .ret_NZ
  | .pop .BC => .pop_BC
  | .jpCC .NZ w => .jp_NZ_a16 w
  | .jp w => .jp_a16 w
  | .callCC .NZ w => .call_NZ_a16 w
  | .push .BC => .push_BC
  | .rst .v00 => .rst_00
  | .retCC .Z => .ret_Z
  | .ret => .ret
  | .jpCC .Z w => .jp_Z_a16 w
  | .callCC .Z w => .call_Z_a16 w
  | .call w => .call_a16 w
  | .rst .v08 => .rst_08
  | .retCC .NC => .ret_NC
  | .pop .DE => .pop_DE
  | .jpCC .NC w => .jp_NC_a16 w
  | .illegal .xD3 => .illegal_D3
  | .callCC .NC w => .call_NC_a16 w
  | .push .DE => .push_DE
  | .rst .v10 => .rst_10
  | .retCC .C => .ret_C
  | .reti => .reti
  | .jpCC .C w => .jp_C_a16 w
  | .illegal .xDB => .illegal_DB
  | .callCC .C w => .call_C_a16 w
  | .illegal .xDD => .illegal_DD
  | .rst .v18 => .rst_18
  | .ldhIA n => .ldh_ma8_A n
  | .pop .HL => .pop_HL
  | .ldCA => .ld_mC_A
  | .illegal .xE3 => .illegal_E3
  | .illegal .xE4 => .illegal_E4
  | .push .HL => .push_HL
  | .rst .v20 => .rst_20
  | .addSPe e => .add_SP_e8 e
  | .jpHL => .jp_HL
  | .ldAbsA w => .ld_ma16_A w
  | .illegal .xEB => .illegal_EB
  | .illegal .xEC => .illegal_EC
  | .illegal .xED => .illegal_ED
  | .rst .v28 => .rst_28
  | .ldhAI n => .ldh_A_ma8 n
  | .pop .AF => .pop_AF
  | .ldAC => .ld_A_mC
  | .di => .di
  | .illegal .xF4 => .illegal_F4
  | .push .AF => .push_AF
  | .rst .v30 => .rst_30
  | .ldHLSPe e => .ld_HL_SPe8 e
  | .ldSPHL => .ld_SP_HL
  | .ldAAbs w => .ld_A_ma16 w
  | .ei => .ei
  | .illegal .xFC => .illegal_FC
  | .illegal .xFD => .illegal_FD
  | .rst .v38 => .rst_38

end Sys2Proof
end

