-- ==== Sys2Proof/WellFormed.lean ====
section
/-! DEFINITION. Which instructions the encoding can express. Every operand but one has a type whose every value is
encodable; a signed offset e8 is an exact integer and must lie in its range (30_encoding.md R115). -/

namespace Sys2Proof

/-- The range of an e8 offset: -128 to +127 (R115). -/
def offsetInRange (e : Int) : Bool := decide (-128 ≤ e ∧ e ≤ 127)

/-- The check on a form: the offset of the four forms that carry one. -/
def Form.wf : Form → Bool
  | .jr e => offsetInRange e
  | .jrCC _ e => offsetInRange e
  | .addSPe e => offsetInRange e
  | .ldHLSPe e => offsetInRange e
  | .ldRR _ _ | .ldRM _ | .ldMR _ | .ldRI _ _ | .ldMI _ | .ldAInd _ | .ldIndA _ | .ldAAbs _ | .ldAbsA _ => true
  | .ldhAI _ | .ldhIA _ | .ldAC | .ldCA | .ldIncA | .ldAInc | .ldDecA | .ldADec => true
  | .ldRrI _ _ | .ldAbsSP _ | .ldSPHL | .push _ | .pop _ => true
  | .alu _ _ | .aluI _ _ | .incR _ | .incM | .decR _ | .decM | .daa | .cpl | .scf | .ccf => true
  | .addHL _ | .incRr _ | .decRr _ | .rlca | .rrca | .rla | .rra => true
  | .rot _ _ | .bit _ _ | .res _ _ | .set _ _ => true
  | .jp _ | .jpCC _ _ | .jpHL | .call _ | .callCC _ _ | .ret | .reti | .rst _ | .retCC _ => true
  | .nop | .halt | .stop | .di | .ei | .illegal _ => true

/-- An instruction is well formed when its form is. -/
def Instr.wf (i : Instr) : Bool := i.form.wf

end Sys2Proof
end

