-- ==== Sys2Proof/Decode.lean ====
section
/-! DEFINITION. The decoder, total on any bytes, and the encoder, both written from the field tables of
30_encoding.md: `x = op[7:6]`, `y = op[5:3]`, `z = op[2:0]`, `p = op[5:4]`, `q = op[3]` (R111). -/

namespace Sys2Proof

/-! ## Field tables (R112 to R114, R118 to R121) -/

/-- The register field r (R112). -/
def Reg8.code : Reg8 → BitVec 3
  | .B => 0 | .C => 1 | .D => 2 | .E => 3 | .H => 4 | .L => 5 | .A => 7

/-- The operand field r, 6 naming the byte at HL (R112). -/
def Operand8.code : Operand8 → BitVec 3
  | .reg r => r.code
  | .mHL => 6

/-- The operand a 3-bit field names (R112). -/
def operandOf (f : Nat) : Operand8 :=
  match f with
  | 0 => .reg .B | 1 => .reg .C | 2 => .reg .D | 3 => .reg .E | 4 => .reg .H | 5 => .reg .L | 6 => .mHL
  | _ => .reg .A

/-- The pair field rr (R113). -/
def Reg16.code : Reg16 → BitVec 2
  | .BC => 0 | .DE => 1 | .HL => 2 | .SP => 3

/-- The pair a 2-bit field rr names (R113). -/
def reg16Of (f : Nat) : Reg16 :=
  match f with
  | 0 => .BC | 1 => .DE | 2 => .HL | _ => .SP

/-- The pair field qq (R113). -/
def StackPair.code : StackPair → BitVec 2
  | .BC => 0 | .DE => 1 | .HL => 2 | .AF => 3

/-- The pair a 2-bit field qq names (R113). -/
def stackPairOf (f : Nat) : StackPair :=
  match f with
  | 0 => .BC | 1 => .DE | 2 => .HL | _ => .AF

/-- The pair of `LD A,(rr)` and `LD (rr),A`, the field p (R116, z = 2). -/
def IndirectPair.code : IndirectPair → BitVec 2
  | .BC => 0 | .DE => 1

/-- The condition field (R114). -/
def Cond.code : Cond → BitVec 2
  | .NZ => 0 | .Z => 1 | .NC => 2 | .C => 3

/-- The condition a 2-bit field names (R114). -/
def condOf (f : Nat) : Cond :=
  match f with
  | 0 => .NZ | 1 => .Z | 2 => .NC | _ => .C

/-- The ALU operation field (R118). -/
def AluOp.code : AluOp → BitVec 3
  | .add => 0 | .adc => 1 | .sub => 2 | .sbc => 3 | .and => 4 | .xor => 5 | .or => 6 | .cp => 7

/-- The ALU operation a 3-bit field names (R118). -/
def aluOf (f : Nat) : AluOp :=
  match f with
  | 0 => .add | 1 => .adc | 2 => .sub | 3 => .sbc | 4 => .and | 5 => .xor | 6 => .or
  | _ => .cp

/-- The rotate and shift field (R120). -/
def RotOp.code : RotOp → BitVec 3
  | .rlc => 0 | .rrc => 1 | .rl => 2 | .rr => 3 | .sla => 4 | .sra => 5 | .swap => 6 | .srl => 7

/-- The rotate or shift a 3-bit field names (R120). -/
def rotOf (f : Nat) : RotOp :=
  match f with
  | 0 => .rlc | 1 => .rrc | 2 => .rl | 3 => .rr | 4 => .sla | 5 => .sra | 6 => .swap
  | _ => .srl

/-- The bit number field k (R120). -/
def BitNo.code : BitNo → BitVec 3
  | .b0 => 0 | .b1 => 1 | .b2 => 2 | .b3 => 3 | .b4 => 4 | .b5 => 5 | .b6 => 6 | .b7 => 7

/-- The bit number a 3-bit field names (R120). -/
def bitNoOf (f : Nat) : BitNo :=
  match f with
  | 0 => .b0 | 1 => .b1 | 2 => .b2 | 3 => .b3 | 4 => .b4 | 5 => .b5 | 6 => .b6
  | _ => .b7

/-- The restart field t (R111 format FT). -/
def RstVector.code : RstVector → BitVec 3
  | .v00 => 0 | .v08 => 1 | .v10 => 2 | .v18 => 3 | .v20 => 4 | .v28 => 5 | .v30 => 6 | .v38 => 7

/-- The restart vector a 3-bit field names (R281). -/
def rstOf (f : Nat) : RstVector :=
  match f with
  | 0 => .v00 | 1 => .v08 | 2 => .v10 | 3 => .v18 | 4 => .v20 | 5 => .v28 | 6 => .v30
  | _ => .v38

/-- The opcode byte of an illegal opcode (R121). -/
def IllegalOp.byte : IllegalOp → Byte
  | .xD3 => 0xD3 | .xDB => 0xDB | .xDD => 0xDD | .xE3 => 0xE3 | .xE4 => 0xE4 | .xEB => 0xEB
  | .xEC => 0xEC | .xED => 0xED | .xF4 => 0xF4 | .xFC => 0xFC | .xFD => 0xFD

/-! ## The decoder -/

/-- Block x = 0, opcodes 0x00 to 0x3F (R116). `b1` and `b2` are the bytes after the opcode. -/
def decodeBlock0 (y z : Nat) (b1 b2 : Byte) : Form :=
  match z with
  | 0 =>
    match y with
    | 0 => .nop
    | 1 => .ldAbsSP (pair b2 b1)
    | 2 => .stop
    | 3 => .jr b1.toInt
    | _ => .jrCC (condOf (y - 4)) b1.toInt
  | 1 => if y % 2 = 0 then .ldRrI (reg16Of (y / 2)) (pair b2 b1) else .addHL (reg16Of (y / 2))
  | 2 =>
    match y with
    | 0 => .ldIndA .BC
    | 1 => .ldAInd .BC
    | 2 => .ldIndA .DE
    | 3 => .ldAInd .DE
    | 4 => .ldIncA
    | 5 => .ldAInc
    | 6 => .ldDecA
    | _ => .ldADec
  | 3 => if y % 2 = 0 then .incRr (reg16Of (y / 2)) else .decRr (reg16Of (y / 2))
  | 4 =>
    match operandOf y with
    | .reg r => .incR r
    | .mHL => .incM
  | 5 =>
    match operandOf y with
    | .reg r => .decR r
    | .mHL => .decM
  | 6 =>
    match operandOf y with
    | .reg r => .ldRI r b1
    | .mHL => .ldMI b1
  | _ =>
    match y with
    | 0 => .rlca
    | 1 => .rrca
    | 2 => .rla
    | 3 => .rra
    | 4 => .daa
    | 5 => .cpl
    | 6 => .scf
    | _ => .ccf

/-- Block x = 1, opcodes 0x40 to 0x7F: LD r(y),r(z), and HALT where both fields name (HL) (R117). -/
def decodeBlock1 (y z : Nat) : Form :=
  match operandOf y, operandOf z with
  | .reg d, .reg s => .ldRR d s
  | .reg d, .mHL => .ldRM d
  | .mHL, .reg s => .ldMR s
  | .mHL, .mHL => .halt

/-- The prefixed table, indexed by the byte after 0xCB (R120). -/
def decodePrefixed (b : Byte) : Form :=
  let g := b.toNat / 64
  let y := b.toNat / 8 % 8
  let s := operandOf (b.toNat % 8)
  match g with
  | 0 => .rot (rotOf y) s
  | 1 => .bit (bitNoOf y) s
  | 2 => .res (bitNoOf y) s
  | _ => .set (bitNoOf y) s

/-- Block x = 3, opcodes 0xC0 to 0xFF (R119), the prefix and the illegal opcodes among them (R121, R123). -/
def decodeBlock3 (y z : Nat) (b1 b2 : Byte) : Form :=
  match z with
  | 0 =>
    match y with
    | 4 => .ldhIA b1
    | 5 => .addSPe b1.toInt
    | 6 => .ldhAI b1
    | 7 => .ldHLSPe b1.toInt
    | _ => .retCC (condOf y)
  | 1 =>
    match y with
    | 1 => .ret
    | 3 => .reti
    | 5 => .jpHL
    | 7 => .ldSPHL
    | _ => .pop (stackPairOf (y / 2))
  | 2 =>
    match y with
    | 4 => .ldCA
    | 5 => .ldAbsA (pair b2 b1)
    | 6 => .ldAC
    | 7 => .ldAAbs (pair b2 b1)
    | _ => .jpCC (condOf y) (pair b2 b1)
  | 3 =>
    match y with
    | 0 => .jp (pair b2 b1)
    | 1 => decodePrefixed b1
    | 2 => .illegal .xD3
    | 3 => .illegal .xDB
    | 4 => .illegal .xE3
    | 5 => .illegal .xEB
    | 6 => .di
    | _ => .ei
  | 4 =>
    match y with
    | 4 => .illegal .xE4
    | 5 => .illegal .xEC
    | 6 => .illegal .xF4
    | 7 => .illegal .xFC
    | _ => .callCC (condOf y) (pair b2 b1)
  | 5 =>
    match y with
    | 1 => .call (pair b2 b1)
    | 3 => .illegal .xDD
    | 5 => .illegal .xED
    | 7 => .illegal .xFD
    | _ => .push (stackPairOf (y / 2))
  | 6 => .aluI (aluOf y) b1
  | _ => .rst (rstOf y)

/-- The form that an opcode byte and the two bytes after it name; a byte the form does not use is ignored. Every opcode
names one (R122). -/
def decodeForm (op b1 b2 : Byte) : Form :=
  let y := op.toNat / 8 % 8
  let z := op.toNat % 8
  match op.toNat / 64 with
  | 0 => decodeBlock0 y z b1 b2
  | 1 => decodeBlock1 y z
  | 2 => .alu (aluOf y) (operandOf z)
  | _ => decodeBlock3 y z b1 b2

/-- The instruction that an opcode byte and the two bytes after it name. -/
def decodeBytes (op b1 b2 : Byte) : Instr := (decodeForm op b1 b2).instr

/-- How many bytes follow the first opcode byte: the second byte of a prefixed instruction, a d8, a8 or e8 byte, the two
bytes of a d16 or a16, and the byte STOP ignores where P_STOP_LEN is 2 (R110, R302). -/
def Form.operandBytes (p : Config.StopLen) : Form → Nat
  | .ldRI _ _ | .ldMI _ | .ldhAI _ | .ldhIA _ | .aluI _ _ | .addSPe _ | .ldHLSPe _ | .jr _ | .jrCC _ _ => 1
  | .rot _ _ | .bit _ _ | .res _ _ | .set _ _ => 1
  | .ldAAbs _ | .ldAbsA _ | .ldRrI _ _ | .ldAbsSP _ | .jp _ | .jpCC _ _ | .call _ | .callCC _ _ => 2
  | .stop =>
    match p with
    | .one => 0
    | .two => 1
  | .ldRR _ _ | .ldRM _ | .ldMR _ | .ldAInd _ | .ldIndA _ | .ldAC | .ldCA | .ldIncA | .ldAInc | .ldDecA | .ldADec => 0
  | .ldSPHL | .push _ | .pop _ | .alu _ _ | .incR _ | .incM | .decR _ | .decM | .daa | .cpl | .scf | .ccf => 0
  | .addHL _ | .incRr _ | .decRr _ | .rlca | .rrca | .rla | .rra | .jpHL | .ret | .reti | .rst _ | .retCC _ => 0
  | .nop | .halt | .di | .ei | .illegal _ => 0

/-- The length of an instruction in bytes, a function of its first byte alone (R110). -/
def instrLength (p : Config.StopLen) (op : Byte) : Nat := 1 + (decodeForm op 0 0).operandBytes p

/-- Why a list of bytes holds no whole instruction. -/
inductive DecodeError where
  | empty                     -- no byte at all
  | truncated (opcode : Byte) -- the opcode's operand bytes are not all there
  deriving DecidableEq, Repr

/-- The first instruction of a list of bytes, and the bytes after it. -/
def decode (p : Config.StopLen) : List Byte → Except DecodeError (Instr × List Byte)
  | [] => .error .empty
  | op :: rest =>
    match (decodeForm op 0 0).operandBytes p, rest with
    | 0, rest => .ok (decodeBytes op 0 0, rest)
    | 1, b1 :: rest => .ok (decodeBytes op b1 0, rest)
    | 2, b1 :: b2 :: rest => .ok (decodeBytes op b1 b2, rest)
    | _, _ => .error (.truncated op)

/-! ## The encoder -/

/-- The bytes of a form, from the encoding line of its rule: bit patterns in the order of R111, an immediate word low byte
first (R115). The byte STOP ignores is written 0x00 (R302). -/
def encodeForm (p : Config.StopLen) : Form → List Byte
  | .ldRR d s => [0b01#2 ++ d.code ++ s.code]
  | .ldRM d => [0b01#2 ++ d.code ++ 0b110#3]
  | .ldMR s => [0b01110#5 ++ s.code]
  | .ldRI d n => [0b00#2 ++ d.code ++ 0b110#3, n]
  | .ldMI n => [0x36, n]
  | .ldAInd q => [0b00#2 ++ q.code ++ 0b1010#4]
  | .ldIndA q => [0b00#2 ++ q.code ++ 0b0010#4]
  | .ldAAbs w => [0xFA, lo w, hi w]
  | .ldAbsA w => [0xEA, lo w, hi w]
  | .ldhAI n => [0xF0, n]
  | .ldhIA n => [0xE0, n]
  | .ldAC => [0xF2]
  | .ldCA => [0xE2]
  | .ldIncA => [0x22]
  | .ldAInc => [0x2A]
  | .ldDecA => [0x32]
  | .ldADec => [0x3A]
  | .ldRrI q w => [0b00#2 ++ q.code ++ 0b0001#4, lo w, hi w]
  | .ldAbsSP w => [0x08, lo w, hi w]
  | .ldSPHL => [0xF9]
  | .push q => [0b11#2 ++ q.code ++ 0b0101#4]
  | .pop q => [0b11#2 ++ q.code ++ 0b0001#4]
  | .alu o x => [0b10#2 ++ o.code ++ x.code]
  | .aluI o n => [0b11#2 ++ o.code ++ 0b110#3, n]
  | .incR d => [0b00#2 ++ d.code ++ 0b100#3]
  | .incM => [0x34]
  | .decR d => [0b00#2 ++ d.code ++ 0b101#3]
  | .decM => [0x35]
  | .daa => [0x27]
  | .cpl => [0x2F]
  | .scf => [0x37]
  | .ccf => [0x3F]
  | .addHL q => [0b00#2 ++ q.code ++ 0b1001#4]
  | .addSPe e => [0xE8, offset8 e]
  | .ldHLSPe e => [0xF8, offset8 e]
  | .incRr q => [0b00#2 ++ q.code ++ 0b0011#4]
  | .decRr q => [0b00#2 ++ q.code ++ 0b1011#4]
  | .rlca => [0x07]
  | .rrca => [0x0F]
  | .rla => [0x17]
  | .rra => [0x1F]
  | .rot o x => [0xCB, 0b00#2 ++ o.code ++ x.code]
  | .bit k x => [0xCB, 0b01#2 ++ k.code ++ x.code]
  | .res k x => [0xCB, 0b10#2 ++ k.code ++ x.code]
  | .set k x => [0xCB, 0b11#2 ++ k.code ++ x.code]
  | .jp w => [0xC3, lo w, hi w]
  | .jpCC c w => [0b110#3 ++ c.code ++ 0b010#3, lo w, hi w]
  | .jpHL => [0xE9]
  | .jr e => [0x18, offset8 e]
  | .jrCC c e => [0b001#3 ++ c.code ++ 0b000#3, offset8 e]
  | .call w => [0xCD, lo w, hi w]
  | .callCC c w => [0b110#3 ++ c.code ++ 0b100#3, lo w, hi w]
  | .ret => [0xC9]
  | .reti => [0xD9]
  | .rst t => [0b11#2 ++ t.code ++ 0b111#3]
  | .retCC c => [0b110#3 ++ c.code ++ 0b000#3]
  | .nop => [0x00]
  | .halt => [0x76]
  | .stop =>
    match p with
    | .one => [0x10]
    | .two => [0x10, 0x00]
  | .di => [0xF3]
  | .ei => [0xFB]
  | .illegal op => [op.byte]

/-- The bytes of a well-formed instruction. -/
def encode (p : Config.StopLen) (i : Instr) : List Byte := encodeForm p i.form

/-! ## The host's opcode-table words -/

/-- The first three bytes of an instruction whose bits are `w`. The first byte is bits 7..0 and a later byte's bits count
on from it. The prefixed rows of spec/opcode_table.json are written the other way (`"match": "0xCB00"`, the prefix in
bits 15..8); a 16-bit word that has 0xCB there and not in its low byte is read as the table writes it. Log entry 21. -/
def tableBytes (nbits w : Nat) : Byte × Byte × Byte :=
  let b0 := BitVec.ofNat 8 w
  let b1 := BitVec.ofNat 8 (w / 256)
  let b2 := BitVec.ofNat 8 (w / 65536)
  if nbits = 16 ∧ b1 = 0xCB#8 ∧ b0 ≠ 0xCB#8 then (b1, b0, 0) else (b0, b1, b2)

/-- The instruction the decoder reads from an opcode-table word (P_STOP_LEN at its decided value). -/
def decodeTableWord (nbits w : Nat) : Option Instr :=
  let (b0, b1, b2) := tableBytes nbits w
  match decode Config.decided.stopLen [b0, b1, b2] with
  | .ok (i, _) => some i
  | .error _ => none

end Sys2Proof
end

