-- ==== Sys2Proof/Machine/Operands.lean ====
section
/-! DEFINITION. Every operand form: registers, pairs, the memory byte at HL, the flag byte F, conditions, bit numbers and
restart vectors (10_state.md R20 to R24, 30_encoding.md R112 to R115, 43_cb_rotate_shift_bit.md R234). -/

namespace Sys2Proof.Machine

/-! ## The flag byte (R22) -/

/-- `F = Z<<7 | N<<6 | H<<5 | C<<4`, its low nibble zero. -/
def flagByte (f : Flags) : Byte :=
  BitVec.ofBool f.z ++ BitVec.ofBool f.n ++ BitVec.ofBool f.h ++ BitVec.ofBool f.c ++ 0#4

/-- The flags of a byte popped into F: bits 7 to 4, the low nibble discarded (R154). -/
def flagsOfByte (v : Byte) : Flags := { z := bit v 7, n := bit v 6, h := bit v 5, c := bit v 4 }

/-! ## Registers and pairs (R20) -/

/-- `r8[X]`. -/
def Regs.get (r : Regs) : Reg8 → Byte
  | .A => r.a
  | .B => r.b
  | .C => r.c
  | .D => r.d
  | .E => r.e
  | .H => r.h
  | .L => r.l

/-- `r8[X] <- v`. -/
def Regs.put (r : Regs) (x : Reg8) (v : Byte) : Regs :=
  match x with
  | .A => { r with a := v }
  | .B => { r with b := v }
  | .C => { r with c := v }
  | .D => { r with d := v }
  | .E => { r with e := v }
  | .H => { r with h := v }
  | .L => { r with l := v }

/-- The register X of a state. -/
def State.r8 (s : State) (x : Reg8) : Byte := s.regs.get x

/-- The state with register X written. -/
def State.setR8 (s : State) (x : Reg8) (v : Byte) : State := { s with regs := s.regs.put x v }

/-- The state with the flags written. -/
def State.setFlags (s : State) (f : Flags) : State := { s with flags := f }

/-- `r16[HL]`. -/
def State.hl (s : State) : Word := pair s.regs.h s.regs.l

/-- `r16[HL] <- v`. -/
def State.setHL (s : State) (v : Word) : State := { s with regs := { s.regs with h := hi v, l := lo v } }

/-- The pair rr, SP among them (R113). -/
def State.r16 (s : State) : Reg16 → Word
  | .BC => pair s.regs.b s.regs.c
  | .DE => pair s.regs.d s.regs.e
  | .HL => s.hl
  | .SP => s.sp

/-- The state with the pair rr written, the first-named register the high byte (R11, R20). -/
def State.setR16 (s : State) (p : Reg16) (v : Word) : State :=
  match p with
  | .BC => { s with regs := { s.regs with b := hi v, c := lo v } }
  | .DE => { s with regs := { s.regs with d := hi v, e := lo v } }
  | .HL => s.setHL v
  | .SP => { s with sp := v }

/-- The pair qq of PUSH, AF with the packed flags as its low byte (R152). -/
def State.stackPair (s : State) : StackPair → Word
  | .BC => pair s.regs.b s.regs.c
  | .DE => pair s.regs.d s.regs.e
  | .HL => s.hl
  | .AF => pair s.regs.a (flagByte s.flags)

/-- The state with the pair qq of POP written; AF writes A and the four flags (R153, R154). -/
def State.setStackPair (s : State) (q : StackPair) (v : Word) : State :=
  match q with
  | .BC => s.setR16 .BC v
  | .DE => s.setR16 .DE v
  | .HL => s.setR16 .HL v
  | .AF => (s.setR8 .A (hi v)).setFlags (flagsOfByte (lo v))

/-- The address in the pair of `LD A,(rr)` and `LD (rr),A` (R135, R136). -/
def State.indirect (s : State) : IndirectPair → Word
  | .BC => s.r16 .BC
  | .DE => s.r16 .DE

/-! ## The 8-bit operand field (R112, R234) -/

/-- `Get()`: the register, or the memory byte at HL. -/
def readOperand (x : Operand8) (s : State) : Except Fault (Byte × State) :=
  match x with
  | .reg r => .ok (s.r8 r, s)
  | .mHL => memRead s.hl s

/-- `Put(v)`: the register, or the memory byte at HL. -/
def writeOperand (x : Operand8) (v : Byte) (s : State) : Except Fault State :=
  match x with
  | .reg r => .ok (s.setR8 r v)
  | .mHL => memWrite s.hl v s

/-- A cost that depends on whether the operand is in memory. -/
def operandCost (x : Operand8) (register memory : Nat) : Nat :=
  match x with
  | .reg _ => register
  | .mHL => memory

/-! ## Conditions, bit numbers, restart vectors -/

/-- `cond(cc)` (R114, R271). -/
def condHolds (c : Cond) (f : Flags) : Bool :=
  match c with
  | .NZ => !f.z
  | .Z => f.z
  | .NC => !f.c
  | .C => f.c

/-- The bit number k. -/
def bitNumber : BitNo → Nat
  | .b0 => 0 | .b1 => 1 | .b2 => 2 | .b3 => 3 | .b4 => 4 | .b5 => 5 | .b6 => 6 | .b7 => 7

/-- The restart address `t * 8` (R281). -/
def rstAddress : RstVector → Word
  | .v00 => 0x00 | .v08 => 0x08 | .v10 => 0x10 | .v18 => 0x18 | .v20 => 0x20 | .v28 => 0x28 | .v30 => 0x30
  | .v38 => 0x38

/-- The address `0xFF00 + n` of LDH and `(C)` (R115, R119). -/
def highPage (n : Byte) : Word := 0xFF00#16 + n.setWidth 16

end Sys2Proof.Machine
end

