-- ==== Sys2Proof/Machine/Flags.lean ====
section
/-! DEFINITION. Every result and flag computation of the arithmetic, logic, rotate, shift and bit instructions
(41_alu8.md, 42_alu16.md, 43_cb_rotate_shift_bit.md; the summary is R199). A raw result is kept in twice the operand's
width, whose two's complement bits are those of the unbounded integer of R10 and R171. -/

namespace Sys2Proof.Machine

/-! ## The carry law of 8-bit add and subtract (R171) -/

/-- `AddRaw(a, b, cin) = a + b + cin`. -/
def addRaw (a b : Byte) (cin : Bool) : BitVec 16 :=
  a.setWidth 16 + b.setWidth 16 + BitVec.ofNat 16 (flagNat cin)

/-- `SubRaw(a, b, cin) = a - b - cin`, in two's complement. -/
def subRaw (a b : Byte) (cin : Bool) : BitVec 16 :=
  a.setWidth 16 - b.setWidth 16 - BitVec.ofNat 16 (flagNat cin)

/-- `Flags(a, b, raw)` with the given N: `t = a ^ b ^ raw`, C from bit 8 of t, H from bit 4, Z from the truncated
result. -/
def rawFlags (a b : Byte) (raw : BitVec 16) (n : Bool) : Flags :=
  let t := a.setWidth 16 ^^^ b.setWidth 16 ^^^ raw
  { z := decide (raw.setWidth 8 = 0#8), n := n, h := t.getLsbD 4, c := t.getLsbD 8 }

/-- ADD and ADC: the result and its flags (R172, R173). -/
def add8 (a b : Byte) (cin : Bool) : Byte × Flags :=
  let raw := addRaw a b cin
  (raw.setWidth 8, rawFlags a b raw false)

/-- SUB, SBC and CP: the result and its flags (R174 to R176). -/
def sub8 (a b : Byte) (cin : Bool) : Byte × Flags :=
  let raw := subRaw a b cin
  (raw.setWidth 8, rawFlags a b raw true)

/-! ## Logic, increment and decrement (R177 to R183) -/

/-- The flags of AND, XOR and OR: Z from the result, N and C clear, H as given (R177 to R179). -/
def logicFlags (v : Byte) (h : Bool) : Flags := { z := decide (v = 0), n := false, h := h, c := false }

/-- What an ALU operation leaves in A and in the flags (R172 to R179); CP leaves A as it was. -/
def alu8 (o : AluOp) (a src : Byte) (f : Flags) : Byte × Flags :=
  match o with
  | .add => add8 a src false
  | .adc => add8 a src f.c
  | .sub => sub8 a src false
  | .sbc => sub8 a src f.c
  | .and => (a &&& src, logicFlags (a &&& src) true)
  | .xor => (a ^^^ src, logicFlags (a ^^^ src) false)
  | .or => (a ||| src, logicFlags (a ||| src) false)
  | .cp => (a, (sub8 a src false).2)

/-- INC: the result, C unchanged (R180, R181). -/
def inc8 (o : Byte) (f : Flags) : Byte × Flags :=
  (o + 1, { z := decide (o + 1 = 0), n := false, h := decide (o &&& 0x0F = 0x0F), c := f.c })

/-- DEC: the result, C unchanged (R182, R183). -/
def dec8 (o : Byte) (f : Flags) : Byte × Flags :=
  (o - 1, { z := decide (o - 1 = 0), n := true, h := decide (o &&& 0x0F = 0x00), c := f.c })

/-! ## Decimal adjust and the accumulator flag operations (R184 to R187) -/

/-- DAA: the standard algorithm of R184. -/
def daa8 (a : Byte) (f : Flags) : Byte × Flags :=
  let high := f.c || (!f.n && decide (a.toNat > 0x99))
  let low := f.h || (!f.n && decide ((a &&& 0x0F).toNat > 0x09))
  let adjust : Byte := (if high then 0x60 else 0) + (if low then 0x06 else 0)
  let v := if f.n then a - adjust else a + adjust
  (v, { z := decide (v = 0), n := f.n, h := false, c := high })

/-! ## 16-bit arithmetic (R210 to R212) -/

/-- ADD HL,rr: the carry law at bits 16 and 12, Z unchanged, N by P_ADD16_N (R210). -/
def add16 (p : Config.Add16N) (a b : Word) (f : Flags) : Word × Flags :=
  let raw := a.setWidth 32 + b.setWidth 32
  let t := a.setWidth 32 ^^^ b.setWidth 32 ^^^ raw
  let n := match p with
    | .unchanged => f.n
    | .cleared => false
  (raw.setWidth 16, { z := f.z, n := n, h := t.getLsbD 12, c := t.getLsbD 16 })

/-- `SP + sext_16(e)` and its flags, which come from the unsigned addition of the offset byte to the low byte of SP (R211,
R212). -/
def addOffset (sp : Word) (e : Int) : Word × Flags :=
  let n := offset8 e
  (sp + offset16 e,
    { z := false
      n := false
      h := decide ((lo sp &&& 0x0F).toNat + (n &&& 0x0F).toNat > 0x0F)
      c := decide ((lo sp).toNat + n.toNat > 0xFF) })

/-! ## Rotates, shifts and bits (R230 to R245) -/

/-- What a rotate or shift leaves and the bit it carries out (R235 to R242). -/
def rotate (o : RotOp) (v : Byte) (cin : Bool) : Byte × Bool :=
  match o with
  | .rlc => (v <<< 1 ||| (BitVec.ofBool (bit v 7)).setWidth 8, bit v 7)
  | .rrc => (v >>> 1 ||| (BitVec.ofBool (bit v 0)).setWidth 8 <<< 7, bit v 0)
  | .rl => (v <<< 1 ||| (BitVec.ofBool cin).setWidth 8, bit v 7)
  | .rr => (v >>> 1 ||| (BitVec.ofBool cin).setWidth 8 <<< 7, bit v 0)
  | .sla => (v <<< 1, bit v 7)
  | .sra => (v >>> 1 ||| (v &&& 0x80), bit v 0)
  | .swap => (v <<< 4 ||| v >>> 4, false)
  | .srl => (v >>> 1, bit v 0)

/-- The flags of a prefixed rotate or shift: Z computed, N and H clear (R235 to R242). -/
def rotateFlags (r : Byte × Bool) : Flags := { z := decide (r.1 = 0), n := false, h := false, c := r.2 }

/-- The flags of RLCA, RRCA, RLA and RRA: Z clear whatever the result (R230 to R233). -/
def accumulatorRotateFlags (r : Byte × Bool) : Flags := { z := false, n := false, h := false, c := r.2 }

/-- The flags of BIT: Z the negation of the tested bit, C untouched (R243). -/
def bitFlags (v : Byte) (k : Nat) (f : Flags) : Flags := { z := !bit v k, n := false, h := true, c := f.c }

end Sys2Proof.Machine
end

