-- ==== Sys2Proof/Machine/Alu16.lean ====
section
/-! DEFINITION. 16-bit arithmetic (42_alu16.md R210 to R214). -/

namespace Sys2Proof.Machine

/-- ADD HL,rr (R210). -/
def opAddHL (p : Reg16) (s : State) : Host.Outcome State Fault Refusal :=
  let r := add16 s.params.add16N s.hl (s.r16 p) s.flags
  complete 8 (.ok ((s.setHL r.1).setFlags r.2))

/-- ADD SP,e8 (R211). -/
def opAddSPe (e : Int) (s : State) : Host.Outcome State Fault Refusal :=
  let r := addOffset s.sp e
  complete 16 (.ok ({ s with sp := r.1 }.setFlags r.2))

/-- LD HL,SP+e8 (R212). -/
def opLdHLSPe (e : Int) (s : State) : Host.Outcome State Fault Refusal :=
  let r := addOffset s.sp e
  complete 12 (.ok ((s.setHL r.1).setFlags r.2))

/-- INC rr (R213). -/
def opIncRr (p : Reg16) (s : State) : Host.Outcome State Fault Refusal := complete 8 (.ok (s.setR16 p (s.r16 p + 1)))

/-- DEC rr (R214). -/
def opDecRr (p : Reg16) (s : State) : Host.Outcome State Fault Refusal := complete 8 (.ok (s.setR16 p (s.r16 p - 1)))

/-! ## The instructions -/

/-- INC BC (R213). -/
def execInc_BC (s : State) : Host.Outcome State Fault Refusal := opIncRr .BC s
/-- ADD HL,BC (R210). -/
def execAdd_HL_BC (s : State) : Host.Outcome State Fault Refusal := opAddHL .BC s
/-- DEC BC (R214). -/
def execDec_BC (s : State) : Host.Outcome State Fault Refusal := opDecRr .BC s
/-- INC DE (R213). -/
def execInc_DE (s : State) : Host.Outcome State Fault Refusal := opIncRr .DE s
/-- ADD HL,DE (R210). -/
def execAdd_HL_DE (s : State) : Host.Outcome State Fault Refusal := opAddHL .DE s
/-- DEC DE (R214). -/
def execDec_DE (s : State) : Host.Outcome State Fault Refusal := opDecRr .DE s
/-- INC HL (R213). -/
def execInc_HL (s : State) : Host.Outcome State Fault Refusal := opIncRr .HL s
/-- ADD HL,HL (R210). -/
def execAdd_HL_HL (s : State) : Host.Outcome State Fault Refusal := opAddHL .HL s
/-- DEC HL (R214). -/
def execDec_HL (s : State) : Host.Outcome State Fault Refusal := opDecRr .HL s
/-- INC SP (R213). -/
def execInc_SP (s : State) : Host.Outcome State Fault Refusal := opIncRr .SP s
/-- ADD HL,SP (R210). -/
def execAdd_HL_SP (s : State) : Host.Outcome State Fault Refusal := opAddHL .SP s
/-- DEC SP (R214). -/
def execDec_SP (s : State) : Host.Outcome State Fault Refusal := opDecRr .SP s
/-- ADD SP,e8 (R211). -/
def execAdd_SP_e8 (e : Int) (s : State) : Host.Outcome State Fault Refusal := opAddSPe e s
/-- LD HL,SP+e8 (R212). -/
def execLd_HL_SPe8 (e : Int) (s : State) : Host.Outcome State Fault Refusal := opLdHLSPe e s

end Sys2Proof.Machine
end

