-- ==== Sys2Proof/Machine/Alu8.lean ====
section
/-! DEFINITION. 8-bit arithmetic and logic (41_alu8.md R170 to R187). -/

namespace Sys2Proof.Machine

/-- An ALU operation on A and a source byte (R172 to R179). -/
def applyAlu (o : AluOp) (src : Byte) (s : State) : State :=
  let r := alu8 o s.regs.a src s.flags
  (s.setR8 .A r.1).setFlags r.2

/-- An ALU operation on A and a register or the byte at HL; cost 4 or 8 (R170). -/
def opAlu (o : AluOp) (x : Operand8) (s : State) : Host.Outcome State Fault Refusal := complete (operandCost x 4 8) do
  let (v, s) ← readOperand x s
  return applyAlu o v s

/-- An ALU operation on A and d8; cost 8 (R170). -/
def opAluI (o : AluOp) (n : Byte) (s : State) : Host.Outcome State Fault Refusal := complete 8 (.ok (applyAlu o n s))

/-- INC r (R180). -/
def opIncR (d : Reg8) (s : State) : Host.Outcome State Fault Refusal :=
  let r := inc8 (s.r8 d) s.flags
  complete 4 (.ok ((s.setR8 d r.1).setFlags r.2))

/-- DEC r (R182). -/
def opDecR (d : Reg8) (s : State) : Host.Outcome State Fault Refusal :=
  let r := dec8 (s.r8 d) s.flags
  complete 4 (.ok ((s.setR8 d r.1).setFlags r.2))

/-- INC (HL): read, write, then the flags (R181). -/
def opIncM (s : State) : Host.Outcome State Fault Refusal := complete 12 do
  let (v, s) ← memRead s.hl s
  let r := inc8 v s.flags
  let s ← memWrite s.hl r.1 s
  return s.setFlags r.2

/-- DEC (HL): read, write, then the flags (R183). -/
def opDecM (s : State) : Host.Outcome State Fault Refusal := complete 12 do
  let (v, s) ← memRead s.hl s
  let r := dec8 v s.flags
  let s ← memWrite s.hl r.1 s
  return s.setFlags r.2

/-- DAA (R184). -/
def opDaa (s : State) : Host.Outcome State Fault Refusal :=
  let r := daa8 s.regs.a s.flags
  complete 4 (.ok ((s.setR8 .A r.1).setFlags r.2))

/-- CPL (R185). -/
def opCpl (s : State) : Host.Outcome State Fault Refusal :=
  complete 4 (.ok ((s.setR8 .A (~~~s.regs.a)).setFlags { s.flags with n := true, h := true }))

/-- SCF (R186). -/
def opScf (s : State) : Host.Outcome State Fault Refusal :=
  complete 4 (.ok (s.setFlags { s.flags with n := false, h := false, c := true }))

/-- CCF (R187). -/
def opCcf (s : State) : Host.Outcome State Fault Refusal :=
  complete 4 (.ok (s.setFlags { s.flags with n := false, h := false, c := !s.flags.c }))

/-! ## The instructions -/

/-- INC B (R180). -/
def execInc_B (s : State) : Host.Outcome State Fault Refusal := opIncR .B s
/-- DEC B (R182). -/
def execDec_B (s : State) : Host.Outcome State Fault Refusal := opDecR .B s
/-- INC C (R180). -/
def execInc_C (s : State) : Host.Outcome State Fault Refusal := opIncR .C s
/-- DEC C (R182). -/
def execDec_C (s : State) : Host.Outcome State Fault Refusal := opDecR .C s
/-- INC D (R180). -/
def execInc_D (s : State) : Host.Outcome State Fault Refusal := opIncR .D s
/-- DEC D (R182). -/
def execDec_D (s : State) : Host.Outcome State Fault Refusal := opDecR .D s
/-- INC E (R180). -/
def execInc_E (s : State) : Host.Outcome State Fault Refusal := opIncR .E s
/-- DEC E (R182). -/
def execDec_E (s : State) : Host.Outcome State Fault Refusal := opDecR .E s
/-- INC H (R180). -/
def execInc_H (s : State) : Host.Outcome State Fault Refusal := opIncR .H s
/-- DEC H (R182). -/
def execDec_H (s : State) : Host.Outcome State Fault Refusal := opDecR .H s
/-- DAA (R184). -/
def execDaa (s : State) : Host.Outcome State Fault Refusal := opDaa s
/-- INC L (R180). -/
def execInc_L (s : State) : Host.Outcome State Fault Refusal := opIncR .L s
/-- DEC L (R182). -/
def execDec_L (s : State) : Host.Outcome State Fault Refusal := opDecR .L s
/-- CPL (R185). -/
def execCpl (s : State) : Host.Outcome State Fault Refusal := opCpl s
/-- INC (HL) (R181). -/
def execInc_mHL (s : State) : Host.Outcome State Fault Refusal := opIncM s
/-- DEC (HL) (R183). -/
def execDec_mHL (s : State) : Host.Outcome State Fault Refusal := opDecM s
/-- SCF (R186). -/
def execScf (s : State) : Host.Outcome State Fault Refusal := opScf s
/-- INC A (R180). -/
def execInc_A (s : State) : Host.Outcome State Fault Refusal := opIncR .A s
/-- DEC A (R182). -/
def execDec_A (s : State) : Host.Outcome State Fault Refusal := opDecR .A s
/-- CCF (R187). -/
def execCcf (s : State) : Host.Outcome State Fault Refusal := opCcf s
/-- ADD A,B (R172). -/
def execAdd_A_B (s : State) : Host.Outcome State Fault Refusal := opAlu .add (.reg .B) s
/-- ADD A,C (R172). -/
def execAdd_A_C (s : State) : Host.Outcome State Fault Refusal := opAlu .add (.reg .C) s
/-- ADD A,D (R172). -/
def execAdd_A_D (s : State) : Host.Outcome State Fault Refusal := opAlu .add (.reg .D) s
/-- ADD A,E (R172). -/
def execAdd_A_E (s : State) : Host.Outcome State Fault Refusal := opAlu .add (.reg .E) s
/-- ADD A,H (R172). -/
def execAdd_A_H (s : State) : Host.Outcome State Fault Refusal := opAlu .add (.reg .H) s
/-- ADD A,L (R172). -/
def execAdd_A_L (s : State) : Host.Outcome State Fault Refusal := opAlu .add (.reg .L) s
/-- ADD A,(HL) (R172). -/
def execAdd_A_mHL (s : State) : Host.Outcome State Fault Refusal := opAlu .add .mHL s
/-- ADD A,A (R172). -/
def execAdd_A_A (s : State) : Host.Outcome State Fault Refusal := opAlu .add (.reg .A) s
/-- ADC A,B (R173). -/
def execAdc_A_B (s : State) : Host.Outcome State Fault Refusal := opAlu .adc (.reg .B) s
/-- ADC A,C (R173). -/
def execAdc_A_C (s : State) : Host.Outcome State Fault Refusal := opAlu .adc (.reg .C) s
/-- ADC A,D (R173). -/
def execAdc_A_D (s : State) : Host.Outcome State Fault Refusal := opAlu .adc (.reg .D) s
/-- ADC A,E (R173). -/
def execAdc_A_E (s : State) : Host.Outcome State Fault Refusal := opAlu .adc (.reg .E) s
/-- ADC A,H (R173). -/
def execAdc_A_H (s : State) : Host.Outcome State Fault Refusal := opAlu .adc (.reg .H) s
/-- ADC A,L (R173). -/
def execAdc_A_L (s : State) : Host.Outcome State Fault Refusal := opAlu .adc (.reg .L) s
/-- ADC A,(HL) (R173). -/
def execAdc_A_mHL (s : State) : Host.Outcome State Fault Refusal := opAlu .adc .mHL s
/-- ADC A,A (R173). -/
def execAdc_A_A (s : State) : Host.Outcome State Fault Refusal := opAlu .adc (.reg .A) s
/-- SUB B (R174). -/
def execSub_B (s : State) : Host.Outcome State Fault Refusal := opAlu .sub (.reg .B) s
/-- SUB C (R174). -/
def execSub_C (s : State) : Host.Outcome State Fault Refusal := opAlu .sub (.reg .C) s
/-- SUB D (R174). -/
def execSub_D (s : State) : Host.Outcome State Fault Refusal := opAlu .sub (.reg .D) s
/-- SUB E (R174). -/
def execSub_E (s : State) : Host.Outcome State Fault Refusal := opAlu .sub (.reg .E) s
/-- SUB H (R174). -/
def execSub_H (s : State) : Host.Outcome State Fault Refusal := opAlu .sub (.reg .H) s
/-- SUB L (R174). -/
def execSub_L (s : State) : Host.Outcome State Fault Refusal := opAlu .sub (.reg .L) s
/-- SUB (HL) (R174). -/
def execSub_mHL (s : State) : Host.Outcome State Fault Refusal := opAlu .sub .mHL s
/-- SUB A (R174). -/
def execSub_A (s : State) : Host.Outcome State Fault Refusal := opAlu .sub (.reg .A) s
/-- SBC A,B (R175). -/
def execSbc_A_B (s : State) : Host.Outcome State Fault Refusal := opAlu .sbc (.reg .B) s
/-- SBC A,C (R175). -/
def execSbc_A_C (s : State) : Host.Outcome State Fault Refusal := opAlu .sbc (.reg .C) s
/-- SBC A,D (R175). -/
def execSbc_A_D (s : State) : Host.Outcome State Fault Refusal := opAlu .sbc (.reg .D) s
/-- SBC A,E (R175). -/
def execSbc_A_E (s : State) : Host.Outcome State Fault Refusal := opAlu .sbc (.reg .E) s
/-- SBC A,H (R175). -/
def execSbc_A_H (s : State) : Host.Outcome State Fault Refusal := opAlu .sbc (.reg .H) s
/-- SBC A,L (R175). -/
def execSbc_A_L (s : State) : Host.Outcome State Fault Refusal := opAlu .sbc (.reg .L) s
/-- SBC A,(HL) (R175). -/
def execSbc_A_mHL (s : State) : Host.Outcome State Fault Refusal := opAlu .sbc .mHL s
/-- SBC A,A (R175). -/
def execSbc_A_A (s : State) : Host.Outcome State Fault Refusal := opAlu .sbc (.reg .A) s
/-- AND B (R177). -/
def execAnd_B (s : State) : Host.Outcome State Fault Refusal := opAlu .and (.reg .B) s
/-- AND C (R177). -/
def execAnd_C (s : State) : Host.Outcome State Fault Refusal := opAlu .and (.reg .C) s
/-- AND D (R177). -/
def execAnd_D (s : State) : Host.Outcome State Fault Refusal := opAlu .and (.reg .D) s
/-- AND E (R177). -/
def execAnd_E (s : State) : Host.Outcome State Fault Refusal := opAlu .and (.reg .E) s
/-- AND H (R177). -/
def execAnd_H (s : State) : Host.Outcome State Fault Refusal := opAlu .and (.reg .H) s
/-- AND L (R177). -/
def execAnd_L (s : State) : Host.Outcome State Fault Refusal := opAlu .and (.reg .L) s
/-- AND (HL) (R177). -/
def execAnd_mHL (s : State) : Host.Outcome State Fault Refusal := opAlu .and .mHL s
/-- AND A (R177). -/
def execAnd_A (s : State) : Host.Outcome State Fault Refusal := opAlu .and (.reg .A) s
/-- XOR B (R178). -/
def execXor_B (s : State) : Host.Outcome State Fault Refusal := opAlu .xor (.reg .B) s
/-- XOR C (R178). -/
def execXor_C (s : State) : Host.Outcome State Fault Refusal := opAlu .xor (.reg .C) s
/-- XOR D (R178). -/
def execXor_D (s : State) : Host.Outcome State Fault Refusal := opAlu .xor (.reg .D) s
/-- XOR E (R178). -/
def execXor_E (s : State) : Host.Outcome State Fault Refusal := opAlu .xor (.reg .E) s
/-- XOR H (R178). -/
def execXor_H (s : State) : Host.Outcome State Fault Refusal := opAlu .xor (.reg .H) s
/-- XOR L (R178). -/
def execXor_L (s : State) : Host.Outcome State Fault Refusal := opAlu .xor (.reg .L) s
/-- XOR (HL) (R178). -/
def execXor_mHL (s : State) : Host.Outcome State Fault Refusal := opAlu .xor .mHL s
/-- XOR A (R178). -/
def execXor_A (s : State) : Host.Outcome State Fault Refusal := opAlu .xor (.reg .A) s
/-- OR B (R179). -/
def execOr_B (s : State) : Host.Outcome State Fault Refusal := opAlu .or (.reg .B) s
/-- OR C (R179). -/
def execOr_C (s : State) : Host.Outcome State Fault Refusal := opAlu .or (.reg .C) s
/-- OR D (R179). -/
def execOr_D (s : State) : Host.Outcome State Fault Refusal := opAlu .or (.reg .D) s
/-- OR E (R179). -/
def execOr_E (s : State) : Host.Outcome State Fault Refusal := opAlu .or (.reg .E) s
/-- OR H (R179). -/
def execOr_H (s : State) : Host.Outcome State Fault Refusal := opAlu .or (.reg .H) s
/-- OR L (R179). -/
def execOr_L (s : State) : Host.Outcome State Fault Refusal := opAlu .or (.reg .L) s
/-- OR (HL) (R179). -/
def execOr_mHL (s : State) : Host.Outcome State Fault Refusal := opAlu .or .mHL s
/-- OR A (R179). -/
def execOr_A (s : State) : Host.Outcome State Fault Refusal := opAlu .or (.reg .A) s
/-- CP B (R176). -/
def execCp_B (s : State) : Host.Outcome State Fault Refusal := opAlu .cp (.reg .B) s
/-- CP C (R176). -/
def execCp_C (s : State) : Host.Outcome State Fault Refusal := opAlu .cp (.reg .C) s
/-- CP D (R176). -/
def execCp_D (s : State) : Host.Outcome State Fault Refusal := opAlu .cp (.reg .D) s
/-- CP E (R176). -/
def execCp_E (s : State) : Host.Outcome State Fault Refusal := opAlu .cp (.reg .E) s
/-- CP H (R176). -/
def execCp_H (s : State) : Host.Outcome State Fault Refusal := opAlu .cp (.reg .H) s
/-- CP L (R176). -/
def execCp_L (s : State) : Host.Outcome State Fault Refusal := opAlu .cp (.reg .L) s
/-- CP (HL) (R176). -/
def execCp_mHL (s : State) : Host.Outcome State Fault Refusal := opAlu .cp .mHL s
/-- CP A (R176). -/
def execCp_A (s : State) : Host.Outcome State Fault Refusal := opAlu .cp (.reg .A) s
/-- ADD A,d8 (R172). -/
def execAdd_A_d8 (n : Byte) (s : State) : Host.Outcome State Fault Refusal := opAluI .add n s
/-- ADC A,d8 (R173). -/
def execAdc_A_d8 (n : Byte) (s : State) : Host.Outcome State Fault Refusal := opAluI .adc n s
/-- SUB d8 (R174). -/
def execSub_d8 (n : Byte) (s : State) : Host.Outcome State Fault Refusal := opAluI .sub n s
/-- SBC A,d8 (R175). -/
def execSbc_A_d8 (n : Byte) (s : State) : Host.Outcome State Fault Refusal := opAluI .sbc n s
/-- AND d8 (R177). -/
def execAnd_d8 (n : Byte) (s : State) : Host.Outcome State Fault Refusal := opAluI .and n s
/-- XOR d8 (R178). -/
def execXor_d8 (n : Byte) (s : State) : Host.Outcome State Fault Refusal := opAluI .xor n s
/-- OR d8 (R179). -/
def execOr_d8 (n : Byte) (s : State) : Host.Outcome State Fault Refusal := opAluI .or n s
/-- CP d8 (R176). -/
def execCp_d8 (n : Byte) (s : State) : Host.Outcome State Fault Refusal := opAluI .cp n s

end Sys2Proof.Machine
end

