-- ==== Sys2Proof/Machine/BitOps.lean ====
section
/-! DEFINITION. Bit test, reset and set (43_cb_rotate_shift_bit.md R234, R243 to R245). -/

namespace Sys2Proof.Machine

/-- BIT k,s: nothing written back; cost 8 or 12 (R243). -/
def opBit (k : BitNo) (x : Operand8) (s : State) : Host.Outcome State Fault Refusal := complete (operandCost x 8 12) do
  let (v, s) ← readOperand x s
  return s.setFlags (bitFlags v (bitNumber k) s.flags)

/-- RES k,s: the bit cleared and always written back; cost 8 or 16 (R244). -/
def opRes (k : BitNo) (x : Operand8) (s : State) : Host.Outcome State Fault Refusal := complete (operandCost x 8 16) do
  let (v, s) ← readOperand x s
  writeOperand x (clearBit v (bitNumber k)) s

/-- SET k,s: the bit set and always written back; cost 8 or 16 (R245). -/
def opSet (k : BitNo) (x : Operand8) (s : State) : Host.Outcome State Fault Refusal := complete (operandCost x 8 16) do
  let (v, s) ← readOperand x s
  writeOperand x (setBit v (bitNumber k)) s

/-! ## The instructions -/

/-- BIT 0,B (R243). -/
def execBit_0_B (s : State) : Host.Outcome State Fault Refusal := opBit .b0 (.reg .B) s
/-- BIT 0,C (R243). -/
def execBit_0_C (s : State) : Host.Outcome State Fault Refusal := opBit .b0 (.reg .C) s
/-- BIT 0,D (R243). -/
def execBit_0_D (s : State) : Host.Outcome State Fault Refusal := opBit .b0 (.reg .D) s
/-- BIT 0,E (R243). -/
def execBit_0_E (s : State) : Host.Outcome State Fault Refusal := opBit .b0 (.reg .E) s
/-- BIT 0,H (R243). -/
def execBit_0_H (s : State) : Host.Outcome State Fault Refusal := opBit .b0 (.reg .H) s
/-- BIT 0,L (R243). -/
def execBit_0_L (s : State) : Host.Outcome State Fault Refusal := opBit .b0 (.reg .L) s
/-- BIT 0,(HL) (R243). -/
def execBit_0_mHL (s : State) : Host.Outcome State Fault Refusal := opBit .b0 .mHL s
/-- BIT 0,A (R243). -/
def execBit_0_A (s : State) : Host.Outcome State Fault Refusal := opBit .b0 (.reg .A) s
/-- BIT 1,B (R243). -/
def execBit_1_B (s : State) : Host.Outcome State Fault Refusal := opBit .b1 (.reg .B) s
/-- BIT 1,C (R243). -/
def execBit_1_C (s : State) : Host.Outcome State Fault Refusal := opBit .b1 (.reg .C) s
/-- BIT 1,D (R243). -/
def execBit_1_D (s : State) : Host.Outcome State Fault Refusal := opBit .b1 (.reg .D) s
/-- BIT 1,E (R243). -/
def execBit_1_E (s : State) : Host.Outcome State Fault Refusal := opBit .b1 (.reg .E) s
/-- BIT 1,H (R243). -/
def execBit_1_H (s : State) : Host.Outcome State Fault Refusal := opBit .b1 (.reg .H) s
/-- BIT 1,L (R243). -/
def execBit_1_L (s : State) : Host.Outcome State Fault Refusal := opBit .b1 (.reg .L) s
/-- BIT 1,(HL) (R243). -/
def execBit_1_mHL (s : State) : Host.Outcome State Fault Refusal := opBit .b1 .mHL s
/-- BIT 1,A (R243). -/
def execBit_1_A (s : State) : Host.Outcome State Fault Refusal := opBit .b1 (.reg .A) s
/-- BIT 2,B (R243). -/
def execBit_2_B (s : State) : Host.Outcome State Fault Refusal := opBit .b2 (.reg .B) s
/-- BIT 2,C (R243). -/
def execBit_2_C (s : State) : Host.Outcome State Fault Refusal := opBit .b2 (.reg .C) s
/-- BIT 2,D (R243). -/
def execBit_2_D (s : State) : Host.Outcome State Fault Refusal := opBit .b2 (.reg .D) s
/-- BIT 2,E (R243). -/
def execBit_2_E (s : State) : Host.Outcome State Fault Refusal := opBit .b2 (.reg .E) s
/-- BIT 2,H (R243). -/
def execBit_2_H (s : State) : Host.Outcome State Fault Refusal := opBit .b2 (.reg .H) s
/-- BIT 2,L (R243). -/
def execBit_2_L (s : State) : Host.Outcome State Fault Refusal := opBit .b2 (.reg .L) s
/-- BIT 2,(HL) (R243). -/
def execBit_2_mHL (s : State) : Host.Outcome State Fault Refusal := opBit .b2 .mHL s
/-- BIT 2,A (R243). -/
def execBit_2_A (s : State) : Host.Outcome State Fault Refusal := opBit .b2 (.reg .A) s
/-- BIT 3,B (R243). -/
def execBit_3_B (s : State) : Host.Outcome State Fault Refusal := opBit .b3 (.reg .B) s
/-- BIT 3,C (R243). -/
def execBit_3_C (s : State) : Host.Outcome State Fault Refusal := opBit .b3 (.reg .C) s
/-- BIT 3,D (R243). -/
def execBit_3_D (s : State) : Host.Outcome State Fault Refusal := opBit .b3 (.reg .D) s
/-- BIT 3,E (R243). -/
def execBit_3_E (s : State) : Host.Outcome State Fault Refusal := opBit .b3 (.reg .E) s
/-- BIT 3,H (R243). -/
def execBit_3_H (s : State) : Host.Outcome State Fault Refusal := opBit .b3 (.reg .H) s
/-- BIT 3,L (R243). -/
def execBit_3_L (s : State) : Host.Outcome State Fault Refusal := opBit .b3 (.reg .L) s
/-- BIT 3,(HL) (R243). -/
def execBit_3_mHL (s : State) : Host.Outcome State Fault Refusal := opBit .b3 .mHL s
/-- BIT 3,A (R243). -/
def execBit_3_A (s : State) : Host.Outcome State Fault Refusal := opBit .b3 (.reg .A) s
/-- BIT 4,B (R243). -/
def execBit_4_B (s : State) : Host.Outcome State Fault Refusal := opBit .b4 (.reg .B) s
/-- BIT 4,C (R243). -/
def execBit_4_C (s : State) : Host.Outcome State Fault Refusal := opBit .b4 (.reg .C) s
/-- BIT 4,D (R243). -/
def execBit_4_D (s : State) : Host.Outcome State Fault Refusal := opBit .b4 (.reg .D) s
/-- BIT 4,E (R243). -/
def execBit_4_E (s : State) : Host.Outcome State Fault Refusal := opBit .b4 (.reg .E) s
/-- BIT 4,H (R243). -/
def execBit_4_H (s : State) : Host.Outcome State Fault Refusal := opBit .b4 (.reg .H) s
/-- BIT 4,L (R243). -/
def execBit_4_L (s : State) : Host.Outcome State Fault Refusal := opBit .b4 (.reg .L) s
/-- BIT 4,(HL) (R243). -/
def execBit_4_mHL (s : State) : Host.Outcome State Fault Refusal := opBit .b4 .mHL s
/-- BIT 4,A (R243). -/
def execBit_4_A (s : State) : Host.Outcome State Fault Refusal := opBit .b4 (.reg .A) s
/-- BIT 5,B (R243). -/
def execBit_5_B (s : State) : Host.Outcome State Fault Refusal := opBit .b5 (.reg .B) s
/-- BIT 5,C (R243). -/
def execBit_5_C (s : State) : Host.Outcome State Fault Refusal := opBit .b5 (.reg .C) s
/-- BIT 5,D (R243). -/
def execBit_5_D (s : State) : Host.Outcome State Fault Refusal := opBit .b5 (.reg .D) s
/-- BIT 5,E (R243). -/
def execBit_5_E (s : State) : Host.Outcome State Fault Refusal := opBit .b5 (.reg .E) s
/-- BIT 5,H (R243). -/
def execBit_5_H (s : State) : Host.Outcome State Fault Refusal := opBit .b5 (.reg .H) s
/-- BIT 5,L (R243). -/
def execBit_5_L (s : State) : Host.Outcome State Fault Refusal := opBit .b5 (.reg .L) s
/-- BIT 5,(HL) (R243). -/
def execBit_5_mHL (s : State) : Host.Outcome State Fault Refusal := opBit .b5 .mHL s
/-- BIT 5,A (R243). -/
def execBit_5_A (s : State) : Host.Outcome State Fault Refusal := opBit .b5 (.reg .A) s
/-- BIT 6,B (R243). -/
def execBit_6_B (s : State) : Host.Outcome State Fault Refusal := opBit .b6 (.reg .B) s
/-- BIT 6,C (R243). -/
def execBit_6_C (s : State) : Host.Outcome State Fault Refusal := opBit .b6 (.reg .C) s
/-- BIT 6,D (R243). -/
def execBit_6_D (s : State) : Host.Outcome State Fault Refusal := opBit .b6 (.reg .D) s
/-- BIT 6,E (R243). -/
def execBit_6_E (s : State) : Host.Outcome State Fault Refusal := opBit .b6 (.reg .E) s
/-- BIT 6,H (R243). -/
def execBit_6_H (s : State) : Host.Outcome State Fault Refusal := opBit .b6 (.reg .H) s
/-- BIT 6,L (R243). -/
def execBit_6_L (s : State) : Host.Outcome State Fault Refusal := opBit .b6 (.reg .L) s
/-- BIT 6,(HL) (R243). -/
def execBit_6_mHL (s : State) : Host.Outcome State Fault Refusal := opBit .b6 .mHL s
/-- BIT 6,A (R243). -/
def execBit_6_A (s : State) : Host.Outcome State Fault Refusal := opBit .b6 (.reg .A) s
/-- BIT 7,B (R243). -/
def execBit_7_B (s : State) : Host.Outcome State Fault Refusal := opBit .b7 (.reg .B) s
/-- BIT 7,C (R243). -/
def execBit_7_C (s : State) : Host.Outcome State Fault Refusal := opBit .b7 (.reg .C) s
/-- BIT 7,D (R243). -/
def execBit_7_D (s : State) : Host.Outcome State Fault Refusal := opBit .b7 (.reg .D) s
/-- BIT 7,E (R243). -/
def execBit_7_E (s : State) : Host.Outcome State Fault Refusal := opBit .b7 (.reg .E) s
/-- BIT 7,H (R243). -/
def execBit_7_H (s : State) : Host.Outcome State Fault Refusal := opBit .b7 (.reg .H) s
/-- BIT 7,L (R243). -/
def execBit_7_L (s : State) : Host.Outcome State Fault Refusal := opBit .b7 (.reg .L) s
/-- BIT 7,(HL) (R243). -/
def execBit_7_mHL (s : State) : Host.Outcome State Fault Refusal := opBit .b7 .mHL s
/-- BIT 7,A (R243). -/
def execBit_7_A (s : State) : Host.Outcome State Fault Refusal := opBit .b7 (.reg .A) s
/-- RES 0,B (R244). -/
def execRes_0_B (s : State) : Host.Outcome State Fault Refusal := opRes .b0 (.reg .B) s
/-- RES 0,C (R244). -/
def execRes_0_C (s : State) : Host.Outcome State Fault Refusal := opRes .b0 (.reg .C) s
/-- RES 0,D (R244). -/
def execRes_0_D (s : State) : Host.Outcome State Fault Refusal := opRes .b0 (.reg .D) s
/-- RES 0,E (R244). -/
def execRes_0_E (s : State) : Host.Outcome State Fault Refusal := opRes .b0 (.reg .E) s
/-- RES 0,H (R244). -/
def execRes_0_H (s : State) : Host.Outcome State Fault Refusal := opRes .b0 (.reg .H) s
/-- RES 0,L (R244). -/
def execRes_0_L (s : State) : Host.Outcome State Fault Refusal := opRes .b0 (.reg .L) s
/-- RES 0,(HL) (R244). -/
def execRes_0_mHL (s : State) : Host.Outcome State Fault Refusal := opRes .b0 .mHL s
/-- RES 0,A (R244). -/
def execRes_0_A (s : State) : Host.Outcome State Fault Refusal := opRes .b0 (.reg .A) s
/-- RES 1,B (R244). -/
def execRes_1_B (s : State) : Host.Outcome State Fault Refusal := opRes .b1 (.reg .B) s
/-- RES 1,C (R244). -/
def execRes_1_C (s : State) : Host.Outcome State Fault Refusal := opRes .b1 (.reg .C) s
/-- RES 1,D (R244). -/
def execRes_1_D (s : State) : Host.Outcome State Fault Refusal := opRes .b1 (.reg .D) s
/-- RES 1,E (R244). -/
def execRes_1_E (s : State) : Host.Outcome State Fault Refusal := opRes .b1 (.reg .E) s
/-- RES 1,H (R244). -/
def execRes_1_H (s : State) : Host.Outcome State Fault Refusal := opRes .b1 (.reg .H) s
/-- RES 1,L (R244). -/
def execRes_1_L (s : State) : Host.Outcome State Fault Refusal := opRes .b1 (.reg .L) s
/-- RES 1,(HL) (R244). -/
def execRes_1_mHL (s : State) : Host.Outcome State Fault Refusal := opRes .b1 .mHL s
/-- RES 1,A (R244). -/
def execRes_1_A (s : State) : Host.Outcome State Fault Refusal := opRes .b1 (.reg .A) s
/-- RES 2,B (R244). -/
def execRes_2_B (s : State) : Host.Outcome State Fault Refusal := opRes .b2 (.reg .B) s
/-- RES 2,C (R244). -/
def execRes_2_C (s : State) : Host.Outcome State Fault Refusal := opRes .b2 (.reg .C) s
/-- RES 2,D (R244). -/
def execRes_2_D (s : State) : Host.Outcome State Fault Refusal := opRes .b2 (.reg .D) s
/-- RES 2,E (R244). -/
def execRes_2_E (s : State) : Host.Outcome State Fault Refusal := opRes .b2 (.reg .E) s
/-- RES 2,H (R244). -/
def execRes_2_H (s : State) : Host.Outcome State Fault Refusal := opRes .b2 (.reg .H) s
/-- RES 2,L (R244). -/
def execRes_2_L (s : State) : Host.Outcome State Fault Refusal := opRes .b2 (.reg .L) s
/-- RES 2,(HL) (R244). -/
def execRes_2_mHL (s : State) : Host.Outcome State Fault Refusal := opRes .b2 .mHL s
/-- RES 2,A (R244). -/
def execRes_2_A (s : State) : Host.Outcome State Fault Refusal := opRes .b2 (.reg .A) s
/-- RES 3,B (R244). -/
def execRes_3_B (s : State) : Host.Outcome State Fault Refusal := opRes .b3 (.reg .B) s
/-- RES 3,C (R244). -/
def execRes_3_C (s : State) : Host.Outcome State Fault Refusal := opRes .b3 (.reg .C) s
/-- RES 3,D (R244). -/
def execRes_3_D (s : State) : Host.Outcome State Fault Refusal := opRes .b3 (.reg .D) s
/-- RES 3,E (R244). -/
def execRes_3_E (s : State) : Host.Outcome State Fault Refusal := opRes .b3 (.reg .E) s
/-- RES 3,H (R244). -/
def execRes_3_H (s : State) : Host.Outcome State Fault Refusal := opRes .b3 (.reg .H) s
/-- RES 3,L (R244). -/
def execRes_3_L (s : State) : Host.Outcome State Fault Refusal := opRes .b3 (.reg .L) s
/-- RES 3,(HL) (R244). -/
def execRes_3_mHL (s : State) : Host.Outcome State Fault Refusal := opRes .b3 .mHL s
/-- RES 3,A (R244). -/
def execRes_3_A (s : State) : Host.Outcome State Fault Refusal := opRes .b3 (.reg .A) s
/-- RES 4,B (R244). -/
def execRes_4_B (s : State) : Host.Outcome State Fault Refusal := opRes .b4 (.reg .B) s
/-- RES 4,C (R244). -/
def execRes_4_C (s : State) : Host.Outcome State Fault Refusal := opRes .b4 (.reg .C) s
/-- RES 4,D (R244). -/
def execRes_4_D (s : State) : Host.Outcome State Fault Refusal := opRes .b4 (.reg .D) s
/-- RES 4,E (R244). -/
def execRes_4_E (s : State) : Host.Outcome State Fault Refusal := opRes .b4 (.reg .E) s
/-- RES 4,H (R244). -/
def execRes_4_H (s : State) : Host.Outcome State Fault Refusal := opRes .b4 (.reg .H) s
/-- RES 4,L (R244). -/
def execRes_4_L (s : State) : Host.Outcome State Fault Refusal := opRes .b4 (.reg .L) s
/-- RES 4,(HL) (R244). -/
def execRes_4_mHL (s : State) : Host.Outcome State Fault Refusal := opRes .b4 .mHL s
/-- RES 4,A (R244). -/
def execRes_4_A (s : State) : Host.Outcome State Fault Refusal := opRes .b4 (.reg .A) s
/-- RES 5,B (R244). -/
def execRes_5_B (s : State) : Host.Outcome State Fault Refusal := opRes .b5 (.reg .B) s
/-- RES 5,C (R244). -/
def execRes_5_C (s : State) : Host.Outcome State Fault Refusal := opRes .b5 (.reg .C) s
/-- RES 5,D (R244). -/
def execRes_5_D (s : State) : Host.Outcome State Fault Refusal := opRes .b5 (.reg .D) s
/-- RES 5,E (R244). -/
def execRes_5_E (s : State) : Host.Outcome State Fault Refusal := opRes .b5 (.reg .E) s
/-- RES 5,H (R244). -/
def execRes_5_H (s : State) : Host.Outcome State Fault Refusal := opRes .b5 (.reg .H) s
/-- RES 5,L (R244). -/
def execRes_5_L (s : State) : Host.Outcome State Fault Refusal := opRes .b5 (.reg .L) s
/-- RES 5,(HL) (R244). -/
def execRes_5_mHL (s : State) : Host.Outcome State Fault Refusal := opRes .b5 .mHL s
/-- RES 5,A (R244). -/
def execRes_5_A (s : State) : Host.Outcome State Fault Refusal := opRes .b5 (.reg .A) s
/-- RES 6,B (R244). -/
def execRes_6_B (s : State) : Host.Outcome State Fault Refusal := opRes .b6 (.reg .B) s
/-- RES 6,C (R244). -/
def execRes_6_C (s : State) : Host.Outcome State Fault Refusal := opRes .b6 (.reg .C) s
/-- RES 6,D (R244). -/
def execRes_6_D (s : State) : Host.Outcome State Fault Refusal := opRes .b6 (.reg .D) s
/-- RES 6,E (R244). -/
def execRes_6_E (s : State) : Host.Outcome State Fault Refusal := opRes .b6 (.reg .E) s
/-- RES 6,H (R244). -/
def execRes_6_H (s : State) : Host.Outcome State Fault Refusal := opRes .b6 (.reg .H) s
/-- RES 6,L (R244). -/
def execRes_6_L (s : State) : Host.Outcome State Fault Refusal := opRes .b6 (.reg .L) s
/-- RES 6,(HL) (R244). -/
def execRes_6_mHL (s : State) : Host.Outcome State Fault Refusal := opRes .b6 .mHL s
/-- RES 6,A (R244). -/
def execRes_6_A (s : State) : Host.Outcome State Fault Refusal := opRes .b6 (.reg .A) s
/-- RES 7,B (R244). -/
def execRes_7_B (s : State) : Host.Outcome State Fault Refusal := opRes .b7 (.reg .B) s
/-- RES 7,C (R244). -/
def execRes_7_C (s : State) : Host.Outcome State Fault Refusal := opRes .b7 (.reg .C) s
/-- RES 7,D (R244). -/
def execRes_7_D (s : State) : Host.Outcome State Fault Refusal := opRes .b7 (.reg .D) s
/-- RES 7,E (R244). -/
def execRes_7_E (s : State) : Host.Outcome State Fault Refusal := opRes .b7 (.reg .E) s
/-- RES 7,H (R244). -/
def execRes_7_H (s : State) : Host.Outcome State Fault Refusal := opRes .b7 (.reg .H) s
/-- RES 7,L (R244). -/
def execRes_7_L (s : State) : Host.Outcome State Fault Refusal := opRes .b7 (.reg .L) s
/-- RES 7,(HL) (R244). -/
def execRes_7_mHL (s : State) : Host.Outcome State Fault Refusal := opRes .b7 .mHL s
/-- RES 7,A (R244). -/
def execRes_7_A (s : State) : Host.Outcome State Fault Refusal := opRes .b7 (.reg .A) s
/-- SET 0,B (R245). -/
def execSet_0_B (s : State) : Host.Outcome State Fault Refusal := opSet .b0 (.reg .B) s
/-- SET 0,C (R245). -/
def execSet_0_C (s : State) : Host.Outcome State Fault Refusal := opSet .b0 (.reg .C) s
/-- SET 0,D (R245). -/
def execSet_0_D (s : State) : Host.Outcome State Fault Refusal := opSet .b0 (.reg .D) s
/-- SET 0,E (R245). -/
def execSet_0_E (s : State) : Host.Outcome State Fault Refusal := opSet .b0 (.reg .E) s
/-- SET 0,H (R245). -/
def execSet_0_H (s : State) : Host.Outcome State Fault Refusal := opSet .b0 (.reg .H) s
/-- SET 0,L (R245). -/
def execSet_0_L (s : State) : Host.Outcome State Fault Refusal := opSet .b0 (.reg .L) s
/-- SET 0,(HL) (R245). -/
def execSet_0_mHL (s : State) : Host.Outcome State Fault Refusal := opSet .b0 .mHL s
/-- SET 0,A (R245). -/
def execSet_0_A (s : State) : Host.Outcome State Fault Refusal := opSet .b0 (.reg .A) s
/-- SET 1,B (R245). -/
def execSet_1_B (s : State) : Host.Outcome State Fault Refusal := opSet .b1 (.reg .B) s
/-- SET 1,C (R245). -/
def execSet_1_C (s : State) : Host.Outcome State Fault Refusal := opSet .b1 (.reg .C) s
/-- SET 1,D (R245). -/
def execSet_1_D (s : State) : Host.Outcome State Fault Refusal := opSet .b1 (.reg .D) s
/-- SET 1,E (R245). -/
def execSet_1_E (s : State) : Host.Outcome State Fault Refusal := opSet .b1 (.reg .E) s
/-- SET 1,H (R245). -/
def execSet_1_H (s : State) : Host.Outcome State Fault Refusal := opSet .b1 (.reg .H) s
/-- SET 1,L (R245). -/
def execSet_1_L (s : State) : Host.Outcome State Fault Refusal := opSet .b1 (.reg .L) s
/-- SET 1,(HL) (R245). -/
def execSet_1_mHL (s : State) : Host.Outcome State Fault Refusal := opSet .b1 .mHL s
/-- SET 1,A (R245). -/
def execSet_1_A (s : State) : Host.Outcome State Fault Refusal := opSet .b1 (.reg .A) s
/-- SET 2,B (R245). -/
def execSet_2_B (s : State) : Host.Outcome State Fault Refusal := opSet .b2 (.reg .B) s
/-- SET 2,C (R245). -/
def execSet_2_C (s : State) : Host.Outcome State Fault Refusal := opSet .b2 (.reg .C) s
/-- SET 2,D (R245). -/
def execSet_2_D (s : State) : Host.Outcome State Fault Refusal := opSet .b2 (.reg .D) s
/-- SET 2,E (R245). -/
def execSet_2_E (s : State) : Host.Outcome State Fault Refusal := opSet .b2 (.reg .E) s
/-- SET 2,H (R245). -/
def execSet_2_H (s : State) : Host.Outcome State Fault Refusal := opSet .b2 (.reg .H) s
/-- SET 2,L (R245). -/
def execSet_2_L (s : State) : Host.Outcome State Fault Refusal := opSet .b2 (.reg .L) s
/-- SET 2,(HL) (R245). -/
def execSet_2_mHL (s : State) : Host.Outcome State Fault Refusal := opSet .b2 .mHL s
/-- SET 2,A (R245). -/
def execSet_2_A (s : State) : Host.Outcome State Fault Refusal := opSet .b2 (.reg .A) s
/-- SET 3,B (R245). -/
def execSet_3_B (s : State) : Host.Outcome State Fault Refusal := opSet .b3 (.reg .B) s
/-- SET 3,C (R245). -/
def execSet_3_C (s : State) : Host.Outcome State Fault Refusal := opSet .b3 (.reg .C) s
/-- SET 3,D (R245). -/
def execSet_3_D (s : State) : Host.Outcome State Fault Refusal := opSet .b3 (.reg .D) s
/-- SET 3,E (R245). -/
def execSet_3_E (s : State) : Host.Outcome State Fault Refusal := opSet .b3 (.reg .E) s
/-- SET 3,H (R245). -/
def execSet_3_H (s : State) : Host.Outcome State Fault Refusal := opSet .b3 (.reg .H) s
/-- SET 3,L (R245). -/
def execSet_3_L (s : State) : Host.Outcome State Fault Refusal := opSet .b3 (.reg .L) s
/-- SET 3,(HL) (R245). -/
def execSet_3_mHL (s : State) : Host.Outcome State Fault Refusal := opSet .b3 .mHL s
/-- SET 3,A (R245). -/
def execSet_3_A (s : State) : Host.Outcome State Fault Refusal := opSet .b3 (.reg .A) s
/-- SET 4,B (R245). -/
def execSet_4_B (s : State) : Host.Outcome State Fault Refusal := opSet .b4 (.reg .B) s
/-- SET 4,C (R245). -/
def execSet_4_C (s : State) : Host.Outcome State Fault Refusal := opSet .b4 (.reg .C) s
/-- SET 4,D (R245). -/
def execSet_4_D (s : State) : Host.Outcome State Fault Refusal := opSet .b4 (.reg .D) s
/-- SET 4,E (R245). -/
def execSet_4_E (s : State) : Host.Outcome State Fault Refusal := opSet .b4 (.reg .E) s
/-- SET 4,H (R245). -/
def execSet_4_H (s : State) : Host.Outcome State Fault Refusal := opSet .b4 (.reg .H) s
/-- SET 4,L (R245). -/
def execSet_4_L (s : State) : Host.Outcome State Fault Refusal := opSet .b4 (.reg .L) s
/-- SET 4,(HL) (R245). -/
def execSet_4_mHL (s : State) : Host.Outcome State Fault Refusal := opSet .b4 .mHL s
/-- SET 4,A (R245). -/
def execSet_4_A (s : State) : Host.Outcome State Fault Refusal := opSet .b4 (.reg .A) s
/-- SET 5,B (R245). -/
def execSet_5_B (s : State) : Host.Outcome State Fault Refusal := opSet .b5 (.reg .B) s
/-- SET 5,C (R245). -/
def execSet_5_C (s : State) : Host.Outcome State Fault Refusal := opSet .b5 (.reg .C) s
/-- SET 5,D (R245). -/
def execSet_5_D (s : State) : Host.Outcome State Fault Refusal := opSet .b5 (.reg .D) s
/-- SET 5,E (R245). -/
def execSet_5_E (s : State) : Host.Outcome State Fault Refusal := opSet .b5 (.reg .E) s
/-- SET 5,H (R245). -/
def execSet_5_H (s : State) : Host.Outcome State Fault Refusal := opSet .b5 (.reg .H) s
/-- SET 5,L (R245). -/
def execSet_5_L (s : State) : Host.Outcome State Fault Refusal := opSet .b5 (.reg .L) s
/-- SET 5,(HL) (R245). -/
def execSet_5_mHL (s : State) : Host.Outcome State Fault Refusal := opSet .b5 .mHL s
/-- SET 5,A (R245). -/
def execSet_5_A (s : State) : Host.Outcome State Fault Refusal := opSet .b5 (.reg .A) s
/-- SET 6,B (R245). -/
def execSet_6_B (s : State) : Host.Outcome State Fault Refusal := opSet .b6 (.reg .B) s
/-- SET 6,C (R245). -/
def execSet_6_C (s : State) : Host.Outcome State Fault Refusal := opSet .b6 (.reg .C) s
/-- SET 6,D (R245). -/
def execSet_6_D (s : State) : Host.Outcome State Fault Refusal := opSet .b6 (.reg .D) s
/-- SET 6,E (R245). -/
def execSet_6_E (s : State) : Host.Outcome State Fault Refusal := opSet .b6 (.reg .E) s
/-- SET 6,H (R245). -/
def execSet_6_H (s : State) : Host.Outcome State Fault Refusal := opSet .b6 (.reg .H) s
/-- SET 6,L (R245). -/
def execSet_6_L (s : State) : Host.Outcome State Fault Refusal := opSet .b6 (.reg .L) s
/-- SET 6,(HL) (R245). -/
def execSet_6_mHL (s : State) : Host.Outcome State Fault Refusal := opSet .b6 .mHL s
/-- SET 6,A (R245). -/
def execSet_6_A (s : State) : Host.Outcome State Fault Refusal := opSet .b6 (.reg .A) s
/-- SET 7,B (R245). -/
def execSet_7_B (s : State) : Host.Outcome State Fault Refusal := opSet .b7 (.reg .B) s
/-- SET 7,C (R245). -/
def execSet_7_C (s : State) : Host.Outcome State Fault Refusal := opSet .b7 (.reg .C) s
/-- SET 7,D (R245). -/
def execSet_7_D (s : State) : Host.Outcome State Fault Refusal := opSet .b7 (.reg .D) s
/-- SET 7,E (R245). -/
def execSet_7_E (s : State) : Host.Outcome State Fault Refusal := opSet .b7 (.reg .E) s
/-- SET 7,H (R245). -/
def execSet_7_H (s : State) : Host.Outcome State Fault Refusal := opSet .b7 (.reg .H) s
/-- SET 7,L (R245). -/
def execSet_7_L (s : State) : Host.Outcome State Fault Refusal := opSet .b7 (.reg .L) s
/-- SET 7,(HL) (R245). -/
def execSet_7_mHL (s : State) : Host.Outcome State Fault Refusal := opSet .b7 .mHL s
/-- SET 7,A (R245). -/
def execSet_7_A (s : State) : Host.Outcome State Fault Refusal := opSet .b7 (.reg .A) s

end Sys2Proof.Machine
end

