-- ==== Sys2Proof/Machine/Control.lean ====
section
/-! DEFINITION. Control transfer (44_control.md R270 to R282). PC holds the address after the instruction's last byte. -/

namespace Sys2Proof.Machine

/-- JP a16 (R272). -/
def opJp (w : Word) (s : State) : Host.Outcome State Fault Refusal := complete 16 (.ok { s with pc := w })

/-- JP cc,a16: 16 cycles taken, 12 not taken (R273). -/
def opJpCC (c : Cond) (w : Word) (s : State) : Host.Outcome State Fault Refusal :=
  if condHolds c s.flags then opJp w s else complete 12 (.ok s)

/-- JP HL (R274). -/
def opJpHL (s : State) : Host.Outcome State Fault Refusal := complete 4 (.ok { s with pc := s.hl })

/-- JR e8 (R275). -/
def opJr (e : Int) (s : State) : Host.Outcome State Fault Refusal := complete 12 (.ok { s with pc := s.pc + offset16 e })

/-- JR cc,e8: 12 cycles taken, 8 not taken (R276). -/
def opJrCC (c : Cond) (e : Int) (s : State) : Host.Outcome State Fault Refusal :=
  if condHolds c s.flags then opJr e s else complete 8 (.ok s)

/-- The return address pushed, then a jump: the shape of CALL and RST (R270, R277, R281). -/
def opPushJump (cost : Nat) (w : Word) (s : State) : Host.Outcome State Fault Refusal := complete cost do
  let s ← push16 s.pc s
  return { s with pc := w }

/-- CALL a16 (R277). -/
def opCall (w : Word) (s : State) : Host.Outcome State Fault Refusal := opPushJump 24 w s

/-- CALL cc,a16: 24 cycles taken, 12 not taken (R278). -/
def opCallCC (c : Cond) (w : Word) (s : State) : Host.Outcome State Fault Refusal :=
  if condHolds c s.flags then opPushJump 24 w s else complete 12 (.ok s)

/-- RET (R279). -/
def opRet (s : State) : Host.Outcome State Fault Refusal := complete 16 (returnFromCall s)

/-- RETI (R280). -/
def opReti (s : State) : Host.Outcome State Fault Refusal := complete 16 (returnFromInterrupt s)

/-- RST t (R281). -/
def opRst (t : RstVector) (s : State) : Host.Outcome State Fault Refusal := opPushJump 16 (rstAddress t) s

/-- RET cc: 20 cycles taken, 8 not taken (R282). -/
def opRetCC (c : Cond) (s : State) : Host.Outcome State Fault Refusal :=
  if condHolds c s.flags then complete 20 (returnFromCall s) else complete 8 (.ok s)

/-! ## The instructions -/

/-- JR e8 (R275). -/
def execJr_e8 (e : Int) (s : State) : Host.Outcome State Fault Refusal := opJr e s
/-- JR NZ,e8 (R276). -/
def execJr_NZ_e8 (e : Int) (s : State) : Host.Outcome State Fault Refusal := opJrCC .NZ e s
/-- JR Z,e8 (R276). -/
def execJr_Z_e8 (e : Int) (s : State) : Host.Outcome State Fault Refusal := opJrCC .Z e s
/-- JR NC,e8 (R276). -/
def execJr_NC_e8 (e : Int) (s : State) : Host.Outcome State Fault Refusal := opJrCC .NC e s
/-- JR C,e8 (R276). -/
def execJr_C_e8 (e : Int) (s : State) : Host.Outcome State Fault Refusal := opJrCC .C e s
/-- RET NZ (R282). -/
def execRet_NZ (s : State) : Host.Outcome State Fault Refusal := opRetCC .NZ s
/-- JP NZ,a16 (R273). -/
def execJp_NZ_a16 (w : Word) (s : State) : Host.Outcome State Fault Refusal := opJpCC .NZ w s
/-- JP a16 (R272). -/
def execJp_a16 (w : Word) (s : State) : Host.Outcome State Fault Refusal := opJp w s
/-- CALL NZ,a16 (R278). -/
def execCall_NZ_a16 (w : Word) (s : State) : Host.Outcome State Fault Refusal := opCallCC .NZ w s
/-- RST 0x00 (R281). -/
def execRst_00 (s : State) : Host.Outcome State Fault Refusal := opRst .v00 s
/-- RET Z (R282). -/
def execRet_Z (s : State) : Host.Outcome State Fault Refusal := opRetCC .Z s
/-- RET (R279). -/
def execRet (s : State) : Host.Outcome State Fault Refusal := opRet s
/-- JP Z,a16 (R273). -/
def execJp_Z_a16 (w : Word) (s : State) : Host.Outcome State Fault Refusal := opJpCC .Z w s
/-- CALL Z,a16 (R278). -/
def execCall_Z_a16 (w : Word) (s : State) : Host.Outcome State Fault Refusal := opCallCC .Z w s
/-- CALL a16 (R277). -/
def execCall_a16 (w : Word) (s : State) : Host.Outcome State Fault Refusal := opCall w s
/-- RST 0x08 (R281). -/
def execRst_08 (s : State) : Host.Outcome State Fault Refusal := opRst .v08 s
/-- RET NC (R282). -/
def execRet_NC (s : State) : Host.Outcome State Fault Refusal := opRetCC .NC s
/-- JP NC,a16 (R273). -/
def execJp_NC_a16 (w : Word) (s : State) : Host.Outcome State Fault Refusal := opJpCC .NC w s
/-- CALL NC,a16 (R278). -/
def execCall_NC_a16 (w : Word) (s : State) : Host.Outcome State Fault Refusal := opCallCC .NC w s
/-- RST 0x10 (R281). -/
def execRst_10 (s : State) : Host.Outcome State Fault Refusal := opRst .v10 s
/-- RET C (R282). -/
def execRet_C (s : State) : Host.Outcome State Fault Refusal := opRetCC .C s
/-- RETI (R280). -/
def execReti (s : State) : Host.Outcome State Fault Refusal := opReti s
/-- JP C,a16 (R273). -/
def execJp_C_a16 (w : Word) (s : State) : Host.Outcome State Fault Refusal := opJpCC .C w s
/-- CALL C,a16 (R278). -/
def execCall_C_a16 (w : Word) (s : State) : Host.Outcome State Fault Refusal := opCallCC .C w s
/-- RST 0x18 (R281). -/
def execRst_18 (s : State) : Host.Outcome State Fault Refusal := opRst .v18 s
/-- RST 0x20 (R281). -/
def execRst_20 (s : State) : Host.Outcome State Fault Refusal := opRst .v20 s
/-- JP HL (R274). -/
def execJp_HL (s : State) : Host.Outcome State Fault Refusal := opJpHL s
/-- RST 0x28 (R281). -/
def execRst_28 (s : State) : Host.Outcome State Fault Refusal := opRst .v28 s
/-- RST 0x30 (R281). -/
def execRst_30 (s : State) : Host.Outcome State Fault Refusal := opRst .v30 s
/-- RST 0x38 (R281). -/
def execRst_38 (s : State) : Host.Outcome State Fault Refusal := opRst .v38 s

end Sys2Proof.Machine
end

