-- ==== Sys2Proof/Machine/Load.lean ====
section
/-! DEFINITION. The 8-bit and 16-bit loads and stores (40_load.md R131 to R149). The shared operations come first, one per
rule; below them every instruction has its own definition. -/

namespace Sys2Proof.Machine

/-- LD r,r' (R131). -/
def opLdRR (d x : Reg8) (s : State) : Host.Outcome State Fault Refusal := complete 4 (.ok (s.setR8 d (s.r8 x)))

/-- LD r,(HL): the address is taken before the write (R132). -/
def opLdRM (d : Reg8) (s : State) : Host.Outcome State Fault Refusal := complete 8 do
  let (v, s) ← memRead s.hl s
  return s.setR8 d v

/-- LD (HL),r (R133). -/
def opLdMR (x : Reg8) (s : State) : Host.Outcome State Fault Refusal := complete 8 (memWrite s.hl (s.r8 x) s)

/-- LD r,d8 (R134). -/
def opLdRI (d : Reg8) (n : Byte) (s : State) : Host.Outcome State Fault Refusal := complete 8 (.ok (s.setR8 d n))

/-- LD (HL),d8 (R134). -/
def opLdMI (n : Byte) (s : State) : Host.Outcome State Fault Refusal := complete 12 (memWrite s.hl n s)

/-- A load of A from an address, at a cost. -/
def opLoadA (cost : Nat) (a : Word) (s : State) : Host.Outcome State Fault Refusal := complete cost do
  let (v, s) ← memRead a s
  return s.setR8 .A v

/-- A store of A to an address, at a cost. -/
def opStoreA (cost : Nat) (a : Word) (s : State) : Host.Outcome State Fault Refusal := complete cost (memWrite a s.regs.a s)

/-- LD A,(BC) and LD A,(DE) (R135). -/
def opLdAInd (p : IndirectPair) (s : State) : Host.Outcome State Fault Refusal := opLoadA 8 (s.indirect p) s

/-- LD (BC),A and LD (DE),A (R136). -/
def opLdIndA (p : IndirectPair) (s : State) : Host.Outcome State Fault Refusal := opStoreA 8 (s.indirect p) s

/-- LD A,(a16) (R137). -/
def opLdAAbs (w : Word) (s : State) : Host.Outcome State Fault Refusal := opLoadA 16 w s

/-- LD (a16),A (R138). -/
def opLdAbsA (w : Word) (s : State) : Host.Outcome State Fault Refusal := opStoreA 16 w s

/-- LDH A,(a8) (R139). -/
def opLdhAI (n : Byte) (s : State) : Host.Outcome State Fault Refusal := opLoadA 12 (highPage n) s

/-- LDH (a8),A (R140). -/
def opLdhIA (n : Byte) (s : State) : Host.Outcome State Fault Refusal := opStoreA 12 (highPage n) s

/-- LD A,(C) (R141). -/
def opLdAC (s : State) : Host.Outcome State Fault Refusal := opLoadA 8 (highPage s.regs.c) s

/-- LD (C),A (R142). -/
def opLdCA (s : State) : Host.Outcome State Fault Refusal := opStoreA 8 (highPage s.regs.c) s

/-- LD (HL+),A (step 1) and LD (HL-),A (step -1): HL moves only when the write did not fault (R143, R145). -/
def opStoreAStep (step : Word) (s : State) : Host.Outcome State Fault Refusal := complete 8 do
  let s ← memWrite s.hl s.regs.a s
  return s.setHL (s.hl + step)

/-- LD A,(HL+) (step 1) and LD A,(HL-) (step -1) (R144, R146). -/
def opLoadAStep (step : Word) (s : State) : Host.Outcome State Fault Refusal := complete 8 do
  let (v, s) ← memRead s.hl s
  let s := s.setR8 .A v
  return s.setHL (s.hl + step)

/-- LD rr,d16 (R147). -/
def opLdRrI (p : Reg16) (w : Word) (s : State) : Host.Outcome State Fault Refusal := complete 12 (.ok (s.setR16 p w))

/-- LD (a16),SP (R148). -/
def opLdAbsSP (w : Word) (s : State) : Host.Outcome State Fault Refusal := complete 20 (memWrite16 w s.sp s)

/-- LD SP,HL (R149). -/
def opLdSPHL (s : State) : Host.Outcome State Fault Refusal := complete 8 (.ok { s with sp := s.hl })

/-! ## The instructions -/

/-- LD BC,d16 (R147). -/
def execLd_BC_d16 (w : Word) (s : State) : Host.Outcome State Fault Refusal := opLdRrI .BC w s
/-- LD (BC),A (R136). -/
def execLd_mBC_A (s : State) : Host.Outcome State Fault Refusal := opLdIndA .BC s
/-- LD B,d8 (R134). -/
def execLd_B_d8 (n : Byte) (s : State) : Host.Outcome State Fault Refusal := opLdRI .B n s
/-- LD (a16),SP (R148). -/
def execLd_ma16_SP (w : Word) (s : State) : Host.Outcome State Fault Refusal := opLdAbsSP w s
/-- LD A,(BC) (R135). -/
def execLd_A_mBC (s : State) : Host.Outcome State Fault Refusal := opLdAInd .BC s
/-- LD C,d8 (R134). -/
def execLd_C_d8 (n : Byte) (s : State) : Host.Outcome State Fault Refusal := opLdRI .C n s
/-- LD DE,d16 (R147). -/
def execLd_DE_d16 (w : Word) (s : State) : Host.Outcome State Fault Refusal := opLdRrI .DE w s
/-- LD (DE),A (R136). -/
def execLd_mDE_A (s : State) : Host.Outcome State Fault Refusal := opLdIndA .DE s
/-- LD D,d8 (R134). -/
def execLd_D_d8 (n : Byte) (s : State) : Host.Outcome State Fault Refusal := opLdRI .D n s
/-- LD A,(DE) (R135). -/
def execLd_A_mDE (s : State) : Host.Outcome State Fault Refusal := opLdAInd .DE s
/-- LD E,d8 (R134). -/
def execLd_E_d8 (n : Byte) (s : State) : Host.Outcome State Fault Refusal := opLdRI .E n s
/-- LD HL,d16 (R147). -/
def execLd_HL_d16 (w : Word) (s : State) : Host.Outcome State Fault Refusal := opLdRrI .HL w s
/-- LD (HL+),A (R143). -/
def execLd_mHLi_A (s : State) : Host.Outcome State Fault Refusal := opStoreAStep 1 s
/-- LD H,d8 (R134). -/
def execLd_H_d8 (n : Byte) (s : State) : Host.Outcome State Fault Refusal := opLdRI .H n s
/-- LD A,(HL+) (R144). -/
def execLd_A_mHLi (s : State) : Host.Outcome State Fault Refusal := opLoadAStep 1 s
/-- LD L,d8 (R134). -/
def execLd_L_d8 (n : Byte) (s : State) : Host.Outcome State Fault Refusal := opLdRI .L n s
/-- LD SP,d16 (R147). -/
def execLd_SP_d16 (w : Word) (s : State) : Host.Outcome State Fault Refusal := opLdRrI .SP w s
/-- LD (HL-),A (R145). -/
def execLd_mHLd_A (s : State) : Host.Outcome State Fault Refusal := opStoreAStep (-1) s
/-- LD (HL),d8 (R134). -/
def execLd_mHL_d8 (n : Byte) (s : State) : Host.Outcome State Fault Refusal := opLdMI n s
/-- LD A,(HL-) (R146). -/
def execLd_A_mHLd (s : State) : Host.Outcome State Fault Refusal := opLoadAStep (-1) s
/-- LD A,d8 (R134). -/
def execLd_A_d8 (n : Byte) (s : State) : Host.Outcome State Fault Refusal := opLdRI .A n s
/-- LD B,B (R131). -/
def execLd_B_B (s : State) : Host.Outcome State Fault Refusal := opLdRR .B .B s
/-- LD B,C (R131). -/
def execLd_B_C (s : State) : Host.Outcome State Fault Refusal := opLdRR .B .C s
/-- LD B,D (R131). -/
def execLd_B_D (s : State) : Host.Outcome State Fault Refusal := opLdRR .B .D s
/-- LD B,E (R131). -/
def execLd_B_E (s : State) : Host.Outcome State Fault Refusal := opLdRR .B .E s
/-- LD B,H (R131). -/
def execLd_B_H (s : State) : Host.Outcome State Fault Refusal := opLdRR .B .H s
/-- LD B,L (R131). -/
def execLd_B_L (s : State) : Host.Outcome State Fault Refusal := opLdRR .B .L s
/-- LD B,(HL) (R132). -/
def execLd_B_mHL (s : State) : Host.Outcome State Fault Refusal := opLdRM .B s
/-- LD B,A (R131). -/
def execLd_B_A (s : State) : Host.Outcome State Fault Refusal := opLdRR .B .A s
/-- LD C,B (R131). -/
def execLd_C_B (s : State) : Host.Outcome State Fault Refusal := opLdRR .C .B s
/-- LD C,C (R131). -/
def execLd_C_C (s : State) : Host.Outcome State Fault Refusal := opLdRR .C .C s
/-- LD C,D (R131). -/
def execLd_C_D (s : State) : Host.Outcome State Fault Refusal := opLdRR .C .D s
/-- LD C,E (R131). -/
def execLd_C_E (s : State) : Host.Outcome State Fault Refusal := opLdRR .C .E s
/-- LD C,H (R131). -/
def execLd_C_H (s : State) : Host.Outcome State Fault Refusal := opLdRR .C .H s
/-- LD C,L (R131). -/
def execLd_C_L (s : State) : Host.Outcome State Fault Refusal := opLdRR .C .L s
/-- LD C,(HL) (R132). -/
def execLd_C_mHL (s : State) : Host.Outcome State Fault Refusal := opLdRM .C s
/-- LD C,A (R131). -/
def execLd_C_A (s : State) : Host.Outcome State Fault Refusal := opLdRR .C .A s
/-- LD D,B (R131). -/
def execLd_D_B (s : State) : Host.Outcome State Fault Refusal := opLdRR .D .B s
/-- LD D,C (R131). -/
def execLd_D_C (s : State) : Host.Outcome State Fault Refusal := opLdRR .D .C s
/-- LD D,D (R131). -/
def execLd_D_D (s : State) : Host.Outcome State Fault Refusal := opLdRR .D .D s
/-- LD D,E (R131). -/
def execLd_D_E (s : State) : Host.Outcome State Fault Refusal := opLdRR .D .E s
/-- LD D,H (R131). -/
def execLd_D_H (s : State) : Host.Outcome State Fault Refusal := opLdRR .D .H s
/-- LD D,L (R131). -/
def execLd_D_L (s : State) : Host.Outcome State Fault Refusal := opLdRR .D .L s
/-- LD D,(HL) (R132). -/
def execLd_D_mHL (s : State) : Host.Outcome State Fault Refusal := opLdRM .D s
/-- LD D,A (R131). -/
def execLd_D_A (s : State) : Host.Outcome State Fault Refusal := opLdRR .D .A s
/-- LD E,B (R131). -/
def execLd_E_B (s : State) : Host.Outcome State Fault Refusal := opLdRR .E .B s
/-- LD E,C (R131). -/
def execLd_E_C (s : State) : Host.Outcome State Fault Refusal := opLdRR .E .C s
/-- LD E,D (R131). -/
def execLd_E_D (s : State) : Host.Outcome State Fault Refusal := opLdRR .E .D s
/-- LD E,E (R131). -/
def execLd_E_E (s : State) : Host.Outcome State Fault Refusal := opLdRR .E .E s
/-- LD E,H (R131). -/
def execLd_E_H (s : State) : Host.Outcome State Fault Refusal := opLdRR .E .H s
/-- LD E,L (R131). -/
def execLd_E_L (s : State) : Host.Outcome State Fault Refusal := opLdRR .E .L s
/-- LD E,(HL) (R132). -/
def execLd_E_mHL (s : State) : Host.Outcome State Fault Refusal := opLdRM .E s
/-- LD E,A (R131). -/
def execLd_E_A (s : State) : Host.Outcome State Fault Refusal := opLdRR .E .A s
/-- LD H,B (R131). -/
def execLd_H_B (s : State) : Host.Outcome State Fault Refusal := opLdRR .H .B s
/-- LD H,C (R131). -/
def execLd_H_C (s : State) : Host.Outcome State Fault Refusal := opLdRR .H .C s
/-- LD H,D (R131). -/
def execLd_H_D (s : State) : Host.Outcome State Fault Refusal := opLdRR .H .D s
/-- LD H,E (R131). -/
def execLd_H_E (s : State) : Host.Outcome State Fault Refusal := opLdRR .H .E s
/-- LD H,H (R131). -/
def execLd_H_H (s : State) : Host.Outcome State Fault Refusal := opLdRR .H .H s
/-- LD H,L (R131). -/
def execLd_H_L (s : State) : Host.Outcome State Fault Refusal := opLdRR .H .L s
/-- LD H,(HL) (R132). -/
def execLd_H_mHL (s : State) : Host.Outcome State Fault Refusal := opLdRM .H s
/-- LD H,A (R131). -/
def execLd_H_A (s : State) : Host.Outcome State Fault Refusal := opLdRR .H .A s
/-- LD L,B (R131). -/
def execLd_L_B (s : State) : Host.Outcome State Fault Refusal := opLdRR .L .B s
/-- LD L,C (R131). -/
def execLd_L_C (s : State) : Host.Outcome State Fault Refusal := opLdRR .L .C s
/-- LD L,D (R131). -/
def execLd_L_D (s : State) : Host.Outcome State Fault Refusal := opLdRR .L .D s
/-- LD L,E (R131). -/
def execLd_L_E (s : State) : Host.Outcome State Fault Refusal := opLdRR .L .E s
/-- LD L,H (R131). -/
def execLd_L_H (s : State) : Host.Outcome State Fault Refusal := opLdRR .L .H s
/-- LD L,L (R131). -/
def execLd_L_L (s : State) : Host.Outcome State Fault Refusal := opLdRR .L .L s
/-- LD L,(HL) (R132). -/
def execLd_L_mHL (s : State) : Host.Outcome State Fault Refusal := opLdRM .L s
/-- LD L,A (R131). -/
def execLd_L_A (s : State) : Host.Outcome State Fault Refusal := opLdRR .L .A s
/-- LD (HL),B (R133). -/
def execLd_mHL_B (s : State) : Host.Outcome State Fault Refusal := opLdMR .B s
/-- LD (HL),C (R133). -/
def execLd_mHL_C (s : State) : Host.Outcome State Fault Refusal := opLdMR .C s
/-- LD (HL),D (R133). -/
def execLd_mHL_D (s : State) : Host.Outcome State Fault Refusal := opLdMR .D s
/-- LD (HL),E (R133). -/
def execLd_mHL_E (s : State) : Host.Outcome State Fault Refusal := opLdMR .E s
/-- LD (HL),H (R133). -/
def execLd_mHL_H (s : State) : Host.Outcome State Fault Refusal := opLdMR .H s
/-- LD (HL),L (R133). -/
def execLd_mHL_L (s : State) : Host.Outcome State Fault Refusal := opLdMR .L s
/-- LD (HL),A (R133). -/
def execLd_mHL_A (s : State) : Host.Outcome State Fault Refusal := opLdMR .A s
/-- LD A,B (R131). -/
def execLd_A_B (s : State) : Host.Outcome State Fault Refusal := opLdRR .A .B s
/-- LD A,C (R131). -/
def execLd_A_C (s : State) : Host.Outcome State Fault Refusal := opLdRR .A .C s
/-- LD A,D (R131). -/
def execLd_A_D (s : State) : Host.Outcome State Fault Refusal := opLdRR .A .D s
/-- LD A,E (R131). -/
def execLd_A_E (s : State) : Host.Outcome State Fault Refusal := opLdRR .A .E s
/-- LD A,H (R131). -/
def execLd_A_H (s : State) : Host.Outcome State Fault Refusal := opLdRR .A .H s
/-- LD A,L (R131). -/
def execLd_A_L (s : State) : Host.Outcome State Fault Refusal := opLdRR .A .L s
/-- LD A,(HL) (R132). -/
def execLd_A_mHL (s : State) : Host.Outcome State Fault Refusal := opLdRM .A s
/-- LD A,A (R131). -/
def execLd_A_A (s : State) : Host.Outcome State Fault Refusal := opLdRR .A .A s
/-- LDH (a8),A (R140). -/
def execLdh_ma8_A (n : Byte) (s : State) : Host.Outcome State Fault Refusal := opLdhIA n s
/-- LD (C),A (R142). -/
def execLd_mC_A (s : State) : Host.Outcome State Fault Refusal := opLdCA s
/-- LD (a16),A (R138). -/
def execLd_ma16_A (w : Word) (s : State) : Host.Outcome State Fault Refusal := opLdAbsA w s
/-- LDH A,(a8) (R139). -/
def execLdh_A_ma8 (n : Byte) (s : State) : Host.Outcome State Fault Refusal := opLdhAI n s
/-- LD A,(C) (R141). -/
def execLd_A_mC (s : State) : Host.Outcome State Fault Refusal := opLdAC s
/-- LD SP,HL (R149). -/
def execLd_SP_HL (s : State) : Host.Outcome State Fault Refusal := opLdSPHL s
/-- LD A,(a16) (R137). -/
def execLd_A_ma16 (w : Word) (s : State) : Host.Outcome State Fault Refusal := opLdAAbs w s

end Sys2Proof.Machine
end

