-- ==== Sys2Proof/Machine/Rotate.lean ====
section
/-! DEFINITION. Rotates and shifts (43_cb_rotate_shift_bit.md R230 to R242). -/

namespace Sys2Proof.Machine

/-- RLCA, RRCA, RLA and RRA: the rotate o on A, Z cleared (R230 to R233). -/
def opRotateA (o : RotOp) (s : State) : Host.Outcome State Fault Refusal :=
  let r := rotate o s.regs.a s.flags.c
  complete 4 (.ok ((s.setR8 .A r.1).setFlags (accumulatorRotateFlags r)))

/-- A prefixed rotate or shift: Get, Put, then the flags; cost 8 or 16 (R234 to R242). -/
def opRot (o : RotOp) (x : Operand8) (s : State) : Host.Outcome State Fault Refusal := complete (operandCost x 8 16) do
  let (v, s) ← readOperand x s
  let r := rotate o v s.flags.c
  let s ← writeOperand x r.1 s
  return s.setFlags (rotateFlags r)

/-! ## The instructions -/

/-- RLCA (R230). -/
def execRlca (s : State) : Host.Outcome State Fault Refusal := opRotateA .rlc s
/-- RRCA (R231). -/
def execRrca (s : State) : Host.Outcome State Fault Refusal := opRotateA .rrc s
/-- RLA (R232). -/
def execRla (s : State) : Host.Outcome State Fault Refusal := opRotateA .rl s
/-- RRA (R233). -/
def execRra (s : State) : Host.Outcome State Fault Refusal := opRotateA .rr s
/-- RLC B (R235). -/
def execRlc_B (s : State) : Host.Outcome State Fault Refusal := opRot .rlc (.reg .B) s
/-- RLC C (R235). -/
def execRlc_C (s : State) : Host.Outcome State Fault Refusal := opRot .rlc (.reg .C) s
/-- RLC D (R235). -/
def execRlc_D (s : State) : Host.Outcome State Fault Refusal := opRot .rlc (.reg .D) s
/-- RLC E (R235). -/
def execRlc_E (s : State) : Host.Outcome State Fault Refusal := opRot .rlc (.reg .E) s
/-- RLC H (R235). -/
def execRlc_H (s : State) : Host.Outcome State Fault Refusal := opRot .rlc (.reg .H) s
/-- RLC L (R235). -/
def execRlc_L (s : State) : Host.Outcome State Fault Refusal := opRot .rlc (.reg .L) s
/-- RLC (HL) (R235). -/
def execRlc_mHL (s : State) : Host.Outcome State Fault Refusal := opRot .rlc .mHL s
/-- RLC A (R235). -/
def execRlc_A (s : State) : Host.Outcome State Fault Refusal := opRot .rlc (.reg .A) s
/-- RRC B (R236). -/
def execRrc_B (s : State) : Host.Outcome State Fault Refusal := opRot .rrc (.reg .B) s
/-- RRC C (R236). -/
def execRrc_C (s : State) : Host.Outcome State Fault Refusal := opRot .rrc (.reg .C) s
/-- RRC D (R236). -/
def execRrc_D (s : State) : Host.Outcome State Fault Refusal := opRot .rrc (.reg .D) s
/-- RRC E (R236). -/
def execRrc_E (s : State) : Host.Outcome State Fault Refusal := opRot .rrc (.reg .E) s
/-- RRC H (R236). -/
def execRrc_H (s : State) : Host.Outcome State Fault Refusal := opRot .rrc (.reg .H) s
/-- RRC L (R236). -/
def execRrc_L (s : State) : Host.Outcome State Fault Refusal := opRot .rrc (.reg .L) s
/-- RRC (HL) (R236). -/
def execRrc_mHL (s : State) : Host.Outcome State Fault Refusal := opRot .rrc .mHL s
/-- RRC A (R236). -/
def execRrc_A (s : State) : Host.Outcome State Fault Refusal := opRot .rrc (.reg .A) s
/-- RL B (R237). -/
def execRl_B (s : State) : Host.Outcome State Fault Refusal := opRot .rl (.reg .B) s
/-- RL C (R237). -/
def execRl_C (s : State) : Host.Outcome State Fault Refusal := opRot .rl (.reg .C) s
/-- RL D (R237). -/
def execRl_D (s : State) : Host.Outcome State Fault Refusal := opRot .rl (.reg .D) s
/-- RL E (R237). -/
def execRl_E (s : State) : Host.Outcome State Fault Refusal := opRot .rl (.reg .E) s
/-- RL H (R237). -/
def execRl_H (s : State) : Host.Outcome State Fault Refusal := opRot .rl (.reg .H) s
/-- RL L (R237). -/
def execRl_L (s : State) : Host.Outcome State Fault Refusal := opRot .rl (.reg .L) s
/-- RL (HL) (R237). -/
def execRl_mHL (s : State) : Host.Outcome State Fault Refusal := opRot .rl .mHL s
/-- RL A (R237). -/
def execRl_A (s : State) : Host.Outcome State Fault Refusal := opRot .rl (.reg .A) s
/-- RR B (R238). -/
def execRr_B (s : State) : Host.Outcome State Fault Refusal := opRot .rr (.reg .B) s
/-- RR C (R238). -/
def execRr_C (s : State) : Host.Outcome State Fault Refusal := opRot .rr (.reg .C) s
/-- RR D (R238). -/
def execRr_D (s : State) : Host.Outcome State Fault Refusal := opRot .rr (.reg .D) s
/-- RR E (R238). -/
def execRr_E (s : State) : Host.Outcome State Fault Refusal := opRot .rr (.reg .E) s
/-- RR H (R238). -/
def execRr_H (s : State) : Host.Outcome State Fault Refusal := opRot .rr (.reg .H) s
/-- RR L (R238). -/
def execRr_L (s : State) : Host.Outcome State Fault Refusal := opRot .rr (.reg .L) s
/-- RR (HL) (R238). -/
def execRr_mHL (s : State) : Host.Outcome State Fault Refusal := opRot .rr .mHL s
/-- RR A (R238). -/
def execRr_A (s : State) : Host.Outcome State Fault Refusal := opRot .rr (.reg .A) s
/-- SLA B (R239). -/
def execSla_B (s : State) : Host.Outcome State Fault Refusal := opRot .sla (.reg .B) s
/-- SLA C (R239). -/
def execSla_C (s : State) : Host.Outcome State Fault Refusal := opRot .sla (.reg .C) s
/-- SLA D (R239). -/
def execSla_D (s : State) : Host.Outcome State Fault Refusal := opRot .sla (.reg .D) s
/-- SLA E (R239). -/
def execSla_E (s : State) : Host.Outcome State Fault Refusal := opRot .sla (.reg .E) s
/-- SLA H (R239). -/
def execSla_H (s : State) : Host.Outcome State Fault Refusal := opRot .sla (.reg .H) s
/-- SLA L (R239). -/
def execSla_L (s : State) : Host.Outcome State Fault Refusal := opRot .sla (.reg .L) s
/-- SLA (HL) (R239). -/
def execSla_mHL (s : State) : Host.Outcome State Fault Refusal := opRot .sla .mHL s
/-- SLA A (R239). -/
def execSla_A (s : State) : Host.Outcome State Fault Refusal := opRot .sla (.reg .A) s
/-- SRA B (R240). -/
def execSra_B (s : State) : Host.Outcome State Fault Refusal := opRot .sra (.reg .B) s
/-- SRA C (R240). -/
def execSra_C (s : State) : Host.Outcome State Fault Refusal := opRot .sra (.reg .C) s
/-- SRA D (R240). -/
def execSra_D (s : State) : Host.Outcome State Fault Refusal := opRot .sra (.reg .D) s
/-- SRA E (R240). -/
def execSra_E (s : State) : Host.Outcome State Fault Refusal := opRot .sra (.reg .E) s
/-- SRA H (R240). -/
def execSra_H (s : State) : Host.Outcome State Fault Refusal := opRot .sra (.reg .H) s
/-- SRA L (R240). -/
def execSra_L (s : State) : Host.Outcome State Fault Refusal := opRot .sra (.reg .L) s
/-- SRA (HL) (R240). -/
def execSra_mHL (s : State) : Host.Outcome State Fault Refusal := opRot .sra .mHL s
/-- SRA A (R240). -/
def execSra_A (s : State) : Host.Outcome State Fault Refusal := opRot .sra (.reg .A) s
/-- SWAP B (R241). -/
def execSwap_B (s : State) : Host.Outcome State Fault Refusal := opRot .swap (.reg .B) s
/-- SWAP C (R241). -/
def execSwap_C (s : State) : Host.Outcome State Fault Refusal := opRot .swap (.reg .C) s
/-- SWAP D (R241). -/
def execSwap_D (s : State) : Host.Outcome State Fault Refusal := opRot .swap (.reg .D) s
/-- SWAP E (R241). -/
def execSwap_E (s : State) : Host.Outcome State Fault Refusal := opRot .swap (.reg .E) s
/-- SWAP H (R241). -/
def execSwap_H (s : State) : Host.Outcome State Fault Refusal := opRot .swap (.reg .H) s
/-- SWAP L (R241). -/
def execSwap_L (s : State) : Host.Outcome State Fault Refusal := opRot .swap (.reg .L) s
/-- SWAP (HL) (R241). -/
def execSwap_mHL (s : State) : Host.Outcome State Fault Refusal := opRot .swap .mHL s
/-- SWAP A (R241). -/
def execSwap_A (s : State) : Host.Outcome State Fault Refusal := opRot .swap (.reg .A) s
/-- SRL B (R242). -/
def execSrl_B (s : State) : Host.Outcome State Fault Refusal := opRot .srl (.reg .B) s
/-- SRL C (R242). -/
def execSrl_C (s : State) : Host.Outcome State Fault Refusal := opRot .srl (.reg .C) s
/-- SRL D (R242). -/
def execSrl_D (s : State) : Host.Outcome State Fault Refusal := opRot .srl (.reg .D) s
/-- SRL E (R242). -/
def execSrl_E (s : State) : Host.Outcome State Fault Refusal := opRot .srl (.reg .E) s
/-- SRL H (R242). -/
def execSrl_H (s : State) : Host.Outcome State Fault Refusal := opRot .srl (.reg .H) s
/-- SRL L (R242). -/
def execSrl_L (s : State) : Host.Outcome State Fault Refusal := opRot .srl (.reg .L) s
/-- SRL (HL) (R242). -/
def execSrl_mHL (s : State) : Host.Outcome State Fault Refusal := opRot .srl .mHL s
/-- SRL A (R242). -/
def execSrl_A (s : State) : Host.Outcome State Fault Refusal := opRot .srl (.reg .A) s

end Sys2Proof.Machine
end

