-- ==== Sys2Proof/Machine/Stack.lean ====
section
/-! DEFINITION. PUSH and POP over the stack primitives of Machine/Ops.lean (40_load.md R150 to R154). -/

namespace Sys2Proof.Machine

/-- PUSH qq (R152). -/
def opPush (q : StackPair) (s : State) : Host.Outcome State Fault Refusal := complete 16 (push16 (s.stackPair q) s)

/-- POP qq (R153), POP AF among them (R154). -/
def opPop (q : StackPair) (s : State) : Host.Outcome State Fault Refusal := complete 12 do
  let (v, s) ← pop16 s
  return s.setStackPair q v

/-! ## The instructions -/

/-- POP BC (R153). -/
def execPop_BC (s : State) : Host.Outcome State Fault Refusal := opPop .BC s
/-- PUSH BC (R152). -/
def execPush_BC (s : State) : Host.Outcome State Fault Refusal := opPush .BC s
/-- POP DE (R153). -/
def execPop_DE (s : State) : Host.Outcome State Fault Refusal := opPop .DE s
/-- PUSH DE (R152). -/
def execPush_DE (s : State) : Host.Outcome State Fault Refusal := opPush .DE s
/-- POP HL (R153). -/
def execPop_HL (s : State) : Host.Outcome State Fault Refusal := opPop .HL s
/-- PUSH HL (R152). -/
def execPush_HL (s : State) : Host.Outcome State Fault Refusal := opPush .HL s
/-- POP AF (R154). -/
def execPop_AF (s : State) : Host.Outcome State Fault Refusal := opPop .AF s
/-- PUSH AF (R152). -/
def execPush_AF (s : State) : Host.Outcome State Fault Refusal := opPush .AF s

end Sys2Proof.Machine
end

