-- ==== Sys2Proof/Machine/System.lean ====
section
/-! DEFINITION. System instructions and the illegal opcodes (45_system.md R300 to R306). -/

namespace Sys2Proof.Machine

/-- NOP (R300). -/
def opNop (s : State) : Host.Outcome State Fault Refusal := complete 4 (.ok s)

/-- HALT: the state flag set; what follows is the step's (R301). -/
def opHalt (s : State) : Host.Outcome State Fault Refusal := complete 4 (.ok { s with halted := true })

/-- STOP: a no-operation of the decided length, whose ignored byte the fetch has already passed (R302). -/
def opStop (s : State) : Host.Outcome State Fault Refusal := complete 4 (.ok s)

/-- DI: IME cleared, and a pending EI withdrawn in a machine at P_EI_DELAY = 1 (R303). -/
def opDi (s : State) : Host.Outcome State Fault Refusal :=
  match s.params.eiDelay with
  | .none => complete 4 (.ok { s with ime := false })
  | .one => complete 4 (.ok { s with ime := false, eiPending := false })

/-- EI: IME set at once, or in a machine at P_EI_DELAY = 1 after the next instruction (R304, R324). With IME already true it
has no effect: the corner case of R304, which at P_EI_DELAY = 1 stands over the pseudocode (DEDUCED, log entry 16). -/
def opEi (s : State) : Host.Outcome State Fault Refusal :=
  match s.params.eiDelay with
  | .none => complete 4 (.ok { s with ime := true })
  | .one => if s.ime then complete 4 (.ok s) else complete 4 (.ok { s with eiPending := true })

/-- An illegal opcode: Fault(IllegalOpcode) with the opcode and its address PC - 1 recorded (R306). -/
def opIllegal (op : Byte) (s : State) : Host.Outcome State Fault Refusal := complete 0 (raise (.illegalOpcode op (s.pc - 1)) s)

/-! ## The instructions -/

/-- NOP (R300). -/
def execNop (s : State) : Host.Outcome State Fault Refusal := opNop s
/-- STOP (R302). -/
def execStop (s : State) : Host.Outcome State Fault Refusal := opStop s
/-- HALT (R301). -/
def execHalt (s : State) : Host.Outcome State Fault Refusal := opHalt s
/-- Illegal opcode 0xD3 (R306). -/
def execIllegal_D3 (s : State) : Host.Outcome State Fault Refusal := opIllegal 0xD3 s
/-- Illegal opcode 0xDB (R306). -/
def execIllegal_DB (s : State) : Host.Outcome State Fault Refusal := opIllegal 0xDB s
/-- Illegal opcode 0xDD (R306). -/
def execIllegal_DD (s : State) : Host.Outcome State Fault Refusal := opIllegal 0xDD s
/-- Illegal opcode 0xE3 (R306). -/
def execIllegal_E3 (s : State) : Host.Outcome State Fault Refusal := opIllegal 0xE3 s
/-- Illegal opcode 0xE4 (R306). -/
def execIllegal_E4 (s : State) : Host.Outcome State Fault Refusal := opIllegal 0xE4 s
/-- Illegal opcode 0xEB (R306). -/
def execIllegal_EB (s : State) : Host.Outcome State Fault Refusal := opIllegal 0xEB s
/-- Illegal opcode 0xEC (R306). -/
def execIllegal_EC (s : State) : Host.Outcome State Fault Refusal := opIllegal 0xEC s
/-- Illegal opcode 0xED (R306). -/
def execIllegal_ED (s : State) : Host.Outcome State Fault Refusal := opIllegal 0xED s
/-- DI (R303). -/
def execDi (s : State) : Host.Outcome State Fault Refusal := opDi s
/-- Illegal opcode 0xF4 (R306). -/
def execIllegal_F4 (s : State) : Host.Outcome State Fault Refusal := opIllegal 0xF4 s
/-- EI (R304). -/
def execEi (s : State) : Host.Outcome State Fault Refusal := opEi s
/-- Illegal opcode 0xFC (R306). -/
def execIllegal_FC (s : State) : Host.Outcome State Fault Refusal := opIllegal 0xFC s
/-- Illegal opcode 0xFD (R306). -/
def execIllegal_FD (s : State) : Host.Outcome State Fault Refusal := opIllegal 0xFD s

end Sys2Proof.Machine
end

