-- ==== Sys2Proof/Machine/Render.lean ====
section
/-! DEFINITION. The scanline renderer (60_exceptions.md R380 to R394, R398). Every access takes the storage path, so no
gate applies (R380). -/

namespace Sys2Proof.Machine

/-- A pixel of the background passes: the colour index, kept for sprite priority, and the grey value (R380). -/
abbrev Pixel := BitVec 2 × Grey

/-- `Shade(P, ci) = GREY[(P >> (2 * ci)) & 3]` (R384). -/
def shade (palette : Byte) (ci : BitVec 2) : Grey :=
  match (palette >>> (2 * ci.toNat)).toNat % 4 with
  | 0 => .g255
  | 1 => .g170
  | 2 => .g85
  | _ => .g0

/-- `TilePixel(a, r, c)`: the colour index from the two bit-planes, column 0 the leftmost (R382). `a` is a bus address. -/
def tilePixel (s : State) (a r c : Nat) : BitVec 2 :=
  BitVec.ofBool (bit (s.load (a + 2 * r + 1)) (7 - c)) ++ BitVec.ofBool (bit (s.load (a + 2 * r)) (7 - c))

/-- `TileBase(t)`: unsigned from 0x8000 or signed from 0x9000, by LCDC bit 4 (R382). -/
def tileBase (s : State) (t : Byte) : Nat :=
  if bit (s.load Port.LCDC) 4 then 0x8000 + 16 * t.toNat
  else if t.toNat < 128 then 0x9000 + 16 * t.toNat
  else 0x8000 + 16 * t.toNat

/-- The tile map base a bit of LCDC selects (R383). -/
def mapBase (s : State) (lcdcBit : Nat) : Nat := if bit (s.load Port.LCDC) lcdcBit then 0x9C00 else 0x9800

/-- The pixel at row `v`, column `h` of the map at a base, through BGP. -/
def mapPixel (s : State) (base v h : Nat) : Pixel :=
  let t := s.load (base + v / 8 * 32 + h / 8)
  let ci := tilePixel s (tileBase s t) (v % 8) (h % 8)
  (ci, shade (s.load Port.BGP) ci)

/-- The background pass at a column: scrolled with wrap, or solid white where LCDC bit 0 is clear (R381, R385). -/
def backgroundPixel (s : State) (ly x : Nat) : Pixel :=
  if bit (s.load Port.LCDC) 0 then
    mapPixel s (mapBase s 3) ((ly + (s.load Port.SCY).toNat) % 256) ((x + (s.load Port.SCX).toNat) % 256)
  else (0, .g255)

/-- Whether the window pass redraws a column (R386): from `max(0, WX - 7)` on, where the window's conditions hold, and
LCDC bit 0 too under P_WIN_NEEDS_BG (R385). -/
def windowCovers (s : State) (ly x : Nat) : Bool :=
  bit (s.load Port.LCDC) 5 && decide ((s.load Port.WY).toNat ≤ ly) && decide ((s.load Port.WX).toNat ≤ 166)
    && decide ((s.load Port.WX).toNat ≤ x + 7) && (!s.params.winNeedsBg || bit (s.load Port.LCDC) 0)

/-- The window pass at a column: row `ly - WY`, column `x - (WX - 7)`, through BGP (R386). -/
def windowPixel (s : State) (ly x : Nat) : Pixel :=
  mapPixel s (mapBase s 6) (ly - (s.load Port.WY).toNat) (x + 7 - (s.load Port.WX).toNat)

/-- A column after the background and window passes. -/
def underPixel (s : State) (ly x : Nat) : Pixel :=
  if windowCovers s ly x then windowPixel s ly x else backgroundPixel s ly x

/-- A sprite-table entry (R387). -/
structure Sprite where
  y    : Nat
  x    : Nat
  tile : Nat
  attr : Byte
  deriving DecidableEq, Repr

/-- Entry k of the sprite table, `oam[4k .. 4k+3]` (R387). -/
def spriteAt (s : State) (k : Nat) : Sprite where
  y := (s.load (0xFE00 + 4 * k)).toNat
  x := (s.load (0xFE00 + 4 * k + 1)).toNat
  tile := (s.load (0xFE00 + 4 * k + 2)).toNat
  attr := s.load (0xFE00 + 4 * k + 3)

/-- The sprite height, 8 or 16 by LCDC bit 2 (R387). -/
def spriteHeight (s : State) : Nat := if bit (s.load Port.LCDC) 2 then 16 else 8

/-- Whether an entry's vertical extent meets the line: `y - 16 <= ly < y - 16 + h` over the integers (R387). -/
def spriteOnLine (h ly : Nat) (p : Sprite) : Bool := decide (p.y ≤ ly + 16 ∧ ly + 16 < p.y + h)

/-- A sprite put into a list sorted by ascending x, before the entries of equal x (R388). -/
def insertSprite (p : Sprite) : List Sprite → List Sprite
  | [] => [p]
  | q :: qs => if p.x ≤ q.x then p :: q :: qs else q :: insertSprite p qs

/-- The stable sort by ascending x (R388): equal x keeps the table's order. -/
def sortSprites (l : List Sprite) : List Sprite := l.foldr insertSprite []

/-- The sprites a line draws, first the one that paints last: selected, sorted, at most ten (R387, R388). -/
def lineSprites (s : State) (ly : Nat) : List Sprite :=
  if s.params.objEnable && !bit (s.load Port.LCDC) 1 then []
  else (sortSprites (((List.range 40).map (spriteAt s)).filter (spriteOnLine (spriteHeight s) ly))).take 10

/-- The colour index a sprite has at a column, where it covers it (R390). -/
def spriteIndex (s : State) (ly x : Nat) (p : Sprite) : Option (BitVec 2) :=
  if p.x ≤ x + 8 ∧ x < p.x then
    let h := spriteHeight s
    let row := if bit p.attr 6 then h - 1 - (ly + 16 - p.y) else ly + 16 - p.y
    let tile := if h = 16 then (if row < 8 then p.tile / 2 * 2 else p.tile / 2 * 2 + 1) else p.tile
    let c := x + 8 - p.x
    let column := if bit p.attr 5 then 7 - c else c
    some (tilePixel s (0x8000 + 16 * tile) (row % 8) column)
  else none

/-- The grey value a sprite draws at a column, where it draws: not at colour index 0 (R392), not behind a nonzero
background index when attr bit 7 is set (R391); the palette by attr bit 4 (R393). -/
def spritePixel (s : State) (ly x : Nat) (under : BitVec 2) (p : Sprite) : Option Grey :=
  match spriteIndex s ly x p with
  | none => none
  | some ci =>
    if ci = 0 then none
    else if bit p.attr 7 ∧ under ≠ 0 then none
    else some (shade (s.load (if bit p.attr 4 then Port.OBP1 else Port.OBP0)) ci)

/-- The grey value of a column: the sprites drawn in reverse sorted order over the background, so the first of the list
wins (R389). -/
def columnGrey (s : State) (ly x : Nat) : Grey :=
  let under := underPixel s ly x
  (lineSprites s ly).foldr (fun p g => (spritePixel s ly x under.1 p).getD g) under.2

/-- The 160 grey values of a line (R380). -/
def renderedLine (s : State) (ly : Nat) : Line := Vector.ofFn fun x => columnGrey s ly x.val

/-- `RenderLine(ly)`: the line written into the frame (R380, R398). -/
def renderLine (ly : Nat) (s : State) : State :=
  if h : ly < 144 then { s with frame := s.frame.set ly (renderedLine s ly) h } else s

end Sys2Proof.Machine
end

