-- ==== Sys2Proof/Machine/Display.lean ====
section
/-! DEFINITION. The display controller's advance (60_exceptions.md R350 to R362). It reaches storage by the storage
path. -/

namespace Sys2Proof.Machine

/-! ## Requests and their retraction (R351) -/

/-- `RequestVblank()`. -/
def requestVblank (s : State) : State :=
  { s.store Port.IF (s.load Port.IF ||| 0x01) with display := { s.display with setVblank := true } }

/-- `RequestStat()`. -/
def requestStat (s : State) : State :=
  { s.store Port.IF (s.load Port.IF ||| 0x02) with display := { s.display with setStat := true } }

/-- A status request where the given bit of STAT enables it (R356 to R358). -/
def requestStatIf (statBit : Nat) (s : State) : State :=
  if bit (s.load Port.STAT) statBit then requestStat s else s

/-- `Retract()`, tracked or always by P_IF_RETRACT (R351). Under "always" R351 gives the write of IF alone: that `setVblank` and
`setStat`, which nothing reads there, then stay set is the model's choice (DESIGN CHOICE, log entry 26). -/
def retract (s : State) : State :=
  match s.params.ifRetract with
  | .always => s.store Port.IF (s.load Port.IF &&& 0xFC)
  | .tracked =>
    let s :=
      if s.display.setVblank then
        { s.store Port.IF (s.load Port.IF &&& 0xFE) with display := { s.display with setVblank := false } }
      else s
    if s.display.setStat then
      { s.store Port.IF (s.load Port.IF &&& 0xFD) with display := { s.display with setStat := false } }
    else s

/-! ## Modes -/

/-- The length of a mode in cycles (R350, R451). -/
def Mode.threshold : Mode → Nat
  | .spriteSearch => 79
  | .pixelTransfer => 172
  | .hBlank => 205
  | .vBlank => 4560

/-- The STAT code of a mode (R359). -/
def Mode.code : Mode → Byte
  | .hBlank => 0
  | .vBlank => 1
  | .spriteSearch => 2
  | .pixelTransfer => 3

/-- The state with the mode set. -/
def State.setMode (s : State) (m : Mode) : State := { s with display := { s.display with mode := m } }

/-- The state with a mode's threshold taken from the in-mode counter (R354). -/
def State.takeThreshold (s : State) (m : Mode) : State :=
  { s with display := { s.display with modeClock := s.display.modeClock - m.threshold } }

/-- `Disabled()` (R352). -/
def displayDisabled (s : State) : State :=
  let s := { s with display := { s.display with enabled := false, mode := .hBlank, modeClock := 0 } }
  let s := s.store Port.LY 0
  let s := s.store Port.STAT (s.load Port.STAT &&& 0xFC)
  { s with vramGate := true, oamGate := true }

/-- `Reenable()`, where the display was disabled (R353). -/
def displayReenable (s : State) : State :=
  if s.display.enabled then s
  else { s with display := { s.display with enabled := true, mode := .spriteSearch, modeClock := 0 } }

/-- The exit from Pixel-Transfer: the line rendered, H-blank entered (R356). -/
def leavePixelTransfer (s : State) : State :=
  let s := s.takeThreshold .pixelTransfer
  let s := renderLine (s.load Port.LY).toNat s
  requestStatIf 3 (s.setMode .hBlank)

/-- The exit from H-blank: the next line, or V-blank at line 144 (R357, R362). -/
def leaveHBlank (s : State) : State :=
  let s := s.takeThreshold .hBlank
  let ly := s.load Port.LY + 1
  let s := s.store Port.LY ly
  if ly = 144 then
    let s := requestVblank (s.setMode .vBlank)
    let s := { s with display := { s.display with frameComplete := true } }
    requestStatIf 4 s
  else requestStatIf 5 (s.setMode .spriteSearch)

/-- The exit from V-blank to line 0 (R358). -/
def leaveVBlank (s : State) : State :=
  let s := s.takeThreshold .vBlank
  let s := s.store Port.LY 0
  requestStatIf 5 (s.setMode .spriteSearch)

/-- LY within V-blank: `144 + min(9, modeClock div 456)` (R358). -/
def vBlankLine (modeClock : Nat) : Byte := BitVec.ofNat 8 (144 + min 9 (modeClock / 456))

/-- At most one transition, taken when the in-mode counter reaches the mode's threshold (R354 to R358). -/
def transition (s : State) : State :=
  match s.display.mode with
  | .spriteSearch =>
    if 79 ≤ s.display.modeClock then (s.takeThreshold .spriteSearch).setMode .pixelTransfer else s
  | .pixelTransfer => if 172 ≤ s.display.modeClock then leavePixelTransfer s else s
  | .hBlank => if 205 ≤ s.display.modeClock then leaveHBlank s else s
  | .vBlank =>
    if 4560 ≤ s.display.modeClock then leaveVBlank s
    else s.store Port.LY (vBlankLine s.display.modeClock)

/-- `WriteModeBits()` (R359). -/
def writeModeBits (s : State) : State :=
  s.store Port.STAT ((s.load Port.STAT &&& 0xFC) ||| s.display.mode.code)

/-- `CompareLY()` (R360). -/
def compareLY (s : State) : State :=
  if s.load Port.LY = s.load Port.LYC then
    let s := s.store Port.STAT (setBit (s.load Port.STAT) 2)
    if !s.params.lycGated || bit (s.load Port.STAT) 6 then requestStat s else s
  else s.store Port.STAT (clearBit (s.load Port.STAT) 2)

/-- The sprite-table gate of a mode (R361). -/
def Mode.oamOpen : Mode → Bool
  | .spriteSearch | .pixelTransfer => false
  | .hBlank | .vBlank => true

/-- The video-RAM gate of a mode (R361). -/
def Mode.vramOpen : Mode → Bool
  | .pixelTransfer => false
  | .spriteSearch | .hBlank | .vBlank => true

/-- `ApplyGates()` (R361). -/
def applyGates (s : State) : State :=
  { s with oamGate := s.display.mode.oamOpen, vramGate := s.display.mode.vramOpen }

/-- The advance of an enabled display, after the retraction (R350). -/
def displayRun (cycles : Nat) (s : State) : State :=
  let s := displayReenable s
  let s := { s with display := { s.display with modeClock := s.display.modeClock + cycles } }
  applyGates (compareLY (writeModeBits (transition s)))

/-- `DisplayAdvance(cycles)` (R350). -/
def displayAdvance (cycles : Nat) (s : State) : State :=
  let s := retract s
  if bit (s.load Port.LCDC) 7 then displayRun cycles s else displayDisabled s

end Sys2Proof.Machine
end

