-- ==== Sys2Proof/Machine/Timer.lean ====
section
/-! DEFINITION. The periodic counter: the divider DIV and the timer counter TIMA (60_exceptions.md R341 to R344). It reaches
storage by the storage path. -/

namespace Sys2Proof.Machine

/-- One pass of the divider's loop: 256 cycles taken from the accumulator, DIV incremented mod 256 (R341). -/
def divTick (s : State) : State :=
  { s with timer := { s.timer with divAcc := s.timer.divAcc - 256 } }.store Port.DIV (s.load Port.DIV + 1)

/-- `while divAcc >= 256` (R341), over a bound on the passes. -/
def divLoop : Nat → State → State
  | 0, s => s
  | n + 1, s => if 256 ≤ s.timer.divAcc then divLoop n (divTick s) else s

/-- The divider's advance. Each pass takes cycles from the accumulator, so its value bounds the passes. -/
def divAdvance (cost : Nat) (s : State) : State :=
  divLoop (s.timer.divAcc + cost) { s with timer := { s.timer with divAcc := s.timer.divAcc + cost } }

/-- The divisor that TAC's low bits select (R54). -/
def timaDivisor (tac : Byte) : Nat :=
  match tac.toNat % 4 with
  | 0 => 1024
  | 1 => 16
  | 2 => 64
  | _ => 256

/-- One increment of TIMA: on overflow the reload from TMA and the timer request (R342). -/
def timaIncrement (s : State) : State :=
  if s.load Port.TIMA = 0xFF then
    let s := s.store Port.TIMA (s.load Port.TMA)
    s.store Port.IF (s.load Port.IF ||| 0x04)
  else s.store Port.TIMA (s.load Port.TIMA + 1)

/-- One pass of TIMA's loop at divisor d (R342). -/
def timaTick (d : Nat) (s : State) : State :=
  timaIncrement { s with timer := { s.timer with timaAcc := s.timer.timaAcc - d } }

/-- `while timaAcc >= d` (R342), over a bound on the passes. -/
def timaLoop (d : Nat) : Nat → State → State
  | 0, s => s
  | n + 1, s => if d ≤ s.timer.timaAcc then timaLoop d n (timaTick d s) else s

/-- `TimaAdvance(cost)` (R342): nothing while TAC bit 2 is clear. -/
def timaAdvance (cost : Nat) (s : State) : State :=
  let tac := s.load Port.TAC
  if bit tac 2 then
    timaLoop (timaDivisor tac) (s.timer.timaAcc + cost)
      { s with timer := { s.timer with timaAcc := s.timer.timaAcc + cost } }
  else s

/-- `TimerAdvance(cost)` (R341). -/
def timerAdvance (cost : Nat) (s : State) : State := timaAdvance cost (divAdvance cost s)

end Sys2Proof.Machine
end

