-- ==== Sys2Proof/Machine/Processor.lean ====
section
/-! DEFINITION. The processor's part of a step, the fetch of an instruction's bytes, and the devices' advance that follows
(60_exceptions.md R320 to R328). -/

namespace Sys2Proof.Machine

/-- The operand bytes after an opcode: none, one or two, fetched in order (R110); a byte not fetched is given as 0. -/
def fetchOperands (n : Nat) (s : State) : Except Fault ((Byte × Byte) × State) :=
  match n with
  | 0 => .ok ((0, 0), s)
  | 1 => do
    let (b1, s) ← fetch8 s
    return ((b1, 0), s)
  | _ => do
    let (b1, s) ← fetch8 s
    let (b2, s) ← fetch8 s
    return ((b1, b2), s)

/-- The instruction at PC, its bytes fetched one at a time by the processor path, and the state with PC past them (R110,
R324). Its length is a function of the first byte. -/
def fetchInstr (s : State) : Except Fault (Instr × State) := do
  let (op, s) ← fetch8 s
  let (bs, s) ← fetchOperands ((decodeForm op 0 0).operandBytes s.params.stopLen) s
  return (decodeBytes op bs.1 bs.2, s)

/-- Whether an EI executed earlier takes effect after this instruction (R324, P_EI_DELAY = 1 only). -/
def eiArmed (s : State) : Bool := decide (s.params.eiDelay = .one) && s.eiPending

/-- The end of the execute path: IME set by an armed EI that the instruction has not withdrawn (R324). -/
def settleEi (armed : Bool) (s : State) : State :=
  if armed && s.eiPending then { s with ime := true, eiPending := false } else s

/-- `Execute()` (R324). -/
def execute (s : State) : Host.Outcome State Fault Refusal :=
  match fetchInstr s with
  | .error f => .fault f
  | .ok (i, s') =>
    match exec i s' with
    | .next t => .next (settleEi (eiArmed s) t)
    | .fault f => .fault f
    | .refused r => .refused r

/-- P_ISR_CYCLES as a number (R328). -/
def isrCycles (p : Config.IsrCycles) : Nat :=
  match p with
  | .c12 => 12
  | .c20 => 20

/-- The byte the halt wake tests, by P_HALT_WAKE (R323). -/
def wakeByte (p : Config.HaltWake) (pend en : Byte) : Byte :=
  match p with
  | .pending => pend
  | .pendingAndEnabled => pend &&& en

/-- `ProcessorPart()` (R321): service, wake, execute or idle, and the two faults of requests that bits 7 to 5 alone make. -/
def processorPart (s : State) : Host.Outcome State Fault Refusal :=
  let pend := s.load Port.IF
  let en := s.load Port.IE
  let unspecified := complete 0 (raise (.unspecifiedInterruptState pend en) s)
  if s.ime && decide (pend &&& en ≠ 0) then
    match firstSource (pend &&& en) with
    | some i => complete (isrCycles s.params.isrCycles) (serviceInterrupt i s)
    | none => unspecified
  else if s.halted then
    if s.ime then complete 4 (.ok s)
    else
      let w := wakeByte s.params.haltWake pend en
      if w &&& 0x1F ≠ 0 then complete 4 (.ok { s with halted := false })
      else if w ≠ 0 then unspecified
      else complete 4 (.ok s)
  else execute s

/-- The advances that follow a step's processor part: the counter, then the display controller, by the same cost (R327). -/
def advance (cost : Nat) (s : State) : State := displayAdvance cost (timerAdvance cost s)

/-- `step()` (R320): no step exists in a faulted state (R330); a fault stops the step before the advances. -/
def machineStep (s : State) : Host.Outcome State Fault Refusal :=
  match s.fault with
  | some k => .fault (k.toFault s)
  | none =>
    match processorPart s with
    | .next t => .next (advance t.cost t)
    | .fault f => .fault f
    | .refused r => .refused r

end Sys2Proof.Machine
end

