-- ==== Sys2Proof/Machine/Step.lean ====
section
/-! DEFINITION. One step of the machine, and the host's way to place an instruction where the next step fetches. -/

namespace Sys2Proof.Machine

/-- One step (R320). -/
def step (s : State) : Host.Outcome State Fault Refusal := machineStep s

/-- The state with the opcode-table word stored at PC, ready so that the very next step fetches and runs it (log entry 3). -/
def State.withFetchWord (s : State) (nbits w : Nat) : State :=
  let (b0, b1, b2) := tableBytes nbits w
  ((((s.place s.pc b0).place (s.pc + 1) b1).place (s.pc + 2) b2).readyToFetch)

end Sys2Proof.Machine
end

