-- ==== Sys2Proof/Machine/Reset.lean ====
section
/-! DEFINITION. Construction and reset from every argument the spec gives them: P_CART, P_BOOT and P_INIT
(20_memory.md R80 to R83, 70_reset_and_hazards.md R420 to R428). `State.reset` is one value of `resetWith`
(Laws/Reset.lean). -/

namespace Sys2Proof.Machine

/-- The values reset leaves unspecified, P_INIT (R421, R425): registers, flags and SP (used with a bootstrap image), and
the bytes of RAM by bus address and of cartridge RAM by offset. -/
structure Init where
  regs    : Regs
  flags   : Flags
  sp      : Word
  ram     : Memory
  cartRam : Memory
  deriving DecidableEq, Repr

/-- The controller kind of a type code and whether external RAM is present (R80, R81); none for an unknown code. -/
def cartridgeKind (code : Byte) : Option (BankKind × Bool) :=
  match code.toNat with
  | 0x00 => some (.none, false)
  | 0x01 => some (.type1, false)
  | 0x02 | 0x03 => some (.type1, true)
  | 0x05 | 0x06 => some (.type2, true)
  | 0x08 | 0x09 => some (.none, true)
  | 0x0F | 0x11 => some (.type3, false)
  | 0x10 | 0x12 | 0x13 => some (.type3, true)
  | 0x15 => some (.type4, false)
  | 0x16 | 0x17 => some (.type4, true)
  | 0x19 | 0x1C => some (.type5, false)
  | 0x1A | 0x1B | 0x1D | 0x1E => some (.type5, true)
  | _ => none

/-- The buffer size of a RAM-size code (R82); none for an unknown code. -/
def ramSizeOfCode (code : Byte) : Option Nat :=
  match code.toNat with
  | 0x01 => some 0x800
  | 0x02 => some 0x2000
  | 0x03 => some 0x8000
  | _ => none

/-- The external RAM of a kind: absent, 512 bytes for type-2, else by the RAM-size code (R82). The outer option is the
configuration error. -/
def externalRam (kind : BankKind) (present : Bool) (sizeCode : Byte) : Option (Option Nat) :=
  if present then
    if kind = .type2 then some (some 512) else (ramSizeOfCode sizeCode).map some
  else some none

/-- The cartridge of an image of the given length; none is a configuration error: no machine is built (R83, R428). An image
too short to hold the two header bytes is one too (log entry 4). -/
def buildCartridge (rom : Memory) (romSize : Nat) : Option Cartridge :=
  if romSize ≤ 0x149 then none
  else
    match cartridgeKind (rom.read .cartRom 0x147) with
    | none => none
    | some (kind, present) =>
      match externalRam kind present (rom.read .cartRom 0x149) with
      | none => none
      | some ramSize => some { rom := rom, romSize := romSize, kind := kind, ramSize := ramSize }

/-- The bus addresses of work RAM, video RAM, the sprite table and high RAM, which R425 leaves to P_INIT. -/
def isRamKey (k : Nat) : Bool :=
  decide (0x8000 ≤ k ∧ k < 0xA000) || decide (0xC000 ≤ k ∧ k < 0xE000) || decide (0xFE00 ≤ k ∧ k < 0xFEA0)
    || decide (0xFF80 ≤ k ∧ k < 0xFFFF)

/-- A memory with every byte of an I/O register that R423 gives a post-bootstrap value written as 0x00: the I/O block with a
bootstrap image. -/
def zeroIo (m : Memory) : Memory :=
  (((m.write .bus Port.LCDC 0).write .bus Port.BGP 0).write .bus Port.OBP0 0).write .bus Port.OBP1 0

/-- `reset()` (R420): the state from the parameters, the cartridge image, an optional bootstrap image and the unspecified
values; none where no machine is built. -/
def resetWith (params : Config.Params) (rom : Memory) (romSize : Nat) (boot : Option Memory) (init : Init) :
    Option State :=
  match buildCartridge rom romSize with
  | none => none
  | some cart =>
    let ram := init.ram.filter (fun c => isRamKey c.1)
    let buffer := init.cartRam.filter (fun c => decide (c.1 < cart.ramSize.getD 0))
    let seeded := { State.reset with mem := ram, cartRam := buffer, cart := cart, params := params }
    match boot with
    | none => some seeded
    | some image =>
      some { seeded with
        regs := init.regs
        flags := init.flags
        sp := init.sp
        pc := 0x0000
        booting := true
        bootRom := image
        mem := zeroIo ram }

end Sys2Proof.Machine
end

