-- ==== Sys2Proof/Safety.lean ====
section
/-! DEFINITION. The vocabulary claims are stated in: what a safe access is, what a read or a fetch gives, which bytes an
instruction may store to, the arithmetic of the flags over the integers, and the invariant of a running machine. -/

namespace Sys2Proof.Machine

/-! ## Memory as claims see it -/

/-- One byte of one of the four memories. -/
def State.byteAt (s : State) (st : Store) (k : Nat) : Byte :=
  match st with
  | .bus => s.load k
  | .cartRam => s.cartRam.read .cartRam k
  | .cartRom => s.cart.rom.read .cartRom k
  | .bootRom => s.bootRom.read .bootRom k

/-- A processor read of the address is inside the cartridge (R92 does not apply). -/
def State.Readable (s : State) (a : Word) : Prop := ∀ off, busView s a ≠ .outOfRange off

/-- A processor read of `a` gives `v` and leaves `t`: the stored byte and the same state, or, where the spec leaves the byte
unspecified (R48, R91), the free value of this draw and the state with the draw counted. -/
def State.Reads (s : State) (a : Word) (v : Byte) (t : State) : Prop :=
  (busView s a = .stored v ∧ t = s) ∨
  (busView s a = .unspecified ∧ v = Config.freeByte s.draws ∧ t = { s with draws := s.draws + 1 })

/-- Two processor reads, the byte at `a` first, give the word `w` and leave `t` (R66). -/
def State.ReadsWord (s : State) (a : Word) (w : Word) (t : State) : Prop :=
  ∃ l h u, s.Reads a l u ∧ u.Reads (a + 1) h t ∧ w = pair h l

/-- The 8-bit operand has the value `v`, and reading it leaves `t` (R112, R234). -/
def State.OperandReads (s : State) (x : Operand8) (v : Byte) (t : State) : Prop :=
  match x with
  | .reg r => v = s.r8 r ∧ t = s
  | .mHL => s.Reads s.hl v t

/-- A processor write of `v` at `a` meets no fault: not a write of LY (R75), not outside the cartridge RAM buffer (R92), and
not a DMA copy from a page that lies outside the cartridge (R73, R92). -/
def State.Writable (s : State) (a : Word) (v : Byte) : Prop :=
  a.toNat ≠ Port.LY ∧ (region a = .cartRam → s.Readable a) ∧
  (a.toNat = Port.DMA → ∀ i < 160, s.Readable (pair v 0 + BitVec.ofNat 16 i))

/-- The 8-bit operand can be written. -/
def State.OperandWritable (s : State) (x : Operand8) (v : Byte) : Prop :=
  match x with
  | .reg _ => True
  | .mHL => s.Writable s.hl v

/-- Both bytes of a push can be written (R150). -/
def State.PushWritable (s : State) (v : Word) : Prop :=
  s.Writable (s.sp - 1) (hi v) ∧ s.Writable (s.sp - 2) (lo v)

/-- The bytes at PC are fetched one at a time, and PC moves past each (R11, R26, R324). -/
def State.Fetches (s : State) (bytes : List Byte) (t : State) : Prop :=
  match bytes with
  | [] => t = s
  | b :: rest => ∃ u, s.Reads s.pc b u ∧ State.Fetches { u with pc := u.pc + 1 } rest t

/-- An address with plain read and write behaviour in every state: work RAM, its echo, high RAM, and the I/O bytes that no
observer intercepts (R58, R64, R77, R79). -/
def plainAddress (a : Word) : Bool :=
  match region a with
  | .wram | .echo | .hram | .ie => true
  | .io =>
    decide (a.toNat ≠ Port.P1 ∧ a.toNat ≠ Port.SC ∧ a.toNat ≠ Port.DIV ∧ a.toNat ≠ Port.LY ∧ a.toNat ≠ Port.DMA
      ∧ a.toNat ≠ Port.BOOT)
  | .fixedRom | .bankedRom | .vram | .cartRam | .oam | .unusable => false

/-! ## Stops -/

/-- The outcome of a fault of a kind raised in a state. -/
def faulted (k : FaultKind) (s : State) : Host.Outcome State Fault Refusal := .fault (k.toFault (s.stopped k))

/-- The state a fault leaves. -/
def Fault.final : Fault → State
  | .illegalOpcode _ _ s => s
  | .unspecifiedInterruptState _ _ s => s
  | .unspecifiedWrite _ _ s => s
  | .cartridgeOutOfRange _ s => s

/-! ## Where an instruction stores -/

/-- The addresses a form stores to, in the order of its stores, from the state it executes in. -/
def Form.storeAddresses (f : Form) (s : State) : List Word :=
  match f with
  | .ldMR _ | .ldMI _ | .ldIncA | .ldDecA | .incM | .decM => [s.hl]
  | .rot _ .mHL | .res _ .mHL | .set _ .mHL => [s.hl]
  | .ldIndA q => [s.indirect q]
  | .ldAbsA w => [w]
  | .ldhIA n => [highPage n]
  | .ldCA => [highPage s.regs.c]
  | .ldAbsSP w => [w, w + 1]
  | .push _ | .call _ | .rst _ => [s.sp - 1, s.sp - 2]
  | .callCC c _ => if condHolds c s.flags then [s.sp - 1, s.sp - 2] else []
  | .ldRR _ _ | .ldRM _ | .ldRI _ _ | .ldAInd _ | .ldAAbs _ | .ldhAI _ | .ldAC | .ldAInc | .ldADec => []
  | .ldRrI _ _ | .ldSPHL | .pop _ => []
  | .alu _ _ | .aluI _ _ | .incR _ | .decR _ | .daa | .cpl | .scf | .ccf => []
  | .addHL _ | .addSPe _ | .ldHLSPe _ | .incRr _ | .decRr _ | .rlca | .rrca | .rla | .rra => []
  | .rot _ (.reg _) | .bit _ _ | .res _ (.reg _) | .set _ (.reg _) => []
  | .jp _ | .jpCC _ _ | .jpHL | .jr _ | .jrCC _ _ | .ret | .reti | .retCC _ => []
  | .nop | .halt | .stop | .di | .ei | .illegal _ => []

/-- Whether a processor write at an address may change a byte: the one byte the decode leads to, the whole sprite table for
the DMA register, none for ROM and the unusable region (R62 to R92). -/
def storesTo (s : State) (a : Word) (st : Store) (k : Nat) : Bool :=
  match region a with
  | .fixedRom | .bankedRom | .unusable => false
  | .cartRam => decide (st = .cartRam ∧ k = ramOffset s a)
  | .io => decide (st = .bus ∧ if a.toNat = Port.DMA then 0xFE00 ≤ k ∧ k < 0xFEA0 else k = a.toNat)
  | .vram | .wram | .echo | .oam | .hram | .ie => decide (st = .bus ∧ k = storageKey a)

/-! ## The arithmetic of the flags over the integers (R171, R184, R210) -/

/-- The carry out of bit 7 and bit 3 of `a + b + cin` (R171, the derived reading). -/
def sumFlags (a b : Byte) (cin : Bool) : Flags where
  z := decide ((a.toNat + b.toNat + flagNat cin) % 256 = 0)
  n := false
  h := decide (a.toNat % 16 + b.toNat % 16 + flagNat cin ≥ 16)
  c := decide (a.toNat + b.toNat + flagNat cin ≥ 256)

/-- `(a + b + cin) mod 256`. -/
def sumByte (a b : Byte) (cin : Bool) : Byte := BitVec.ofNat 8 (a.toNat + b.toNat + flagNat cin)

/-- The borrow out of bit 7 and bit 3 of `a - b - cin` (R171, the derived reading). -/
def differenceFlags (a b : Byte) (cin : Bool) : Flags where
  z := decide (((a.toNat : Int) - b.toNat - flagNat cin) % 256 = 0)
  n := true
  h := decide (a.toNat % 16 < b.toNat % 16 + flagNat cin)
  c := decide (a.toNat < b.toNat + flagNat cin)

/-- `(a - b - cin) mod 256`. -/
def differenceByte (a b : Byte) (cin : Bool) : Byte := BitVec.ofInt 8 ((a.toNat : Int) - b.toNat - flagNat cin)

/-- The decimal adjustment over the integers, step by step as R184 writes it: the adjusted accumulator and C. -/
def decimalAdjust (a : Byte) (f : Flags) : Byte × Bool :=
  if f.n then
    let v : Int := a.toNat
    let v := if f.c then v - 0x60 else v
    let v := if f.h then v - 0x06 else v
    (BitVec.ofInt 8 v, f.c)
  else
    let v := a.toNat
    let (v, c) := if f.c = true ∨ v > 0x99 then (v + 0x60, true) else (v, f.c)
    let v := if f.h = true ∨ v % 16 > 0x09 then v + 0x06 else v
    (BitVec.ofNat 8 v, c)

/-- The two-digit decimal number n as a byte, one digit a nibble. -/
def decimalByte (n : Nat) : Byte := BitVec.ofNat 8 (n / 10 * 16 + n % 10)

/-! ## What reset takes from its arguments -/

/-- Video RAM, work RAM, the sprite table, high RAM and the whole cartridge RAM buffer hold the bytes of P_INIT (R425). -/
def State.TakesRamFrom (s : State) (init : Init) : Prop :=
  (∀ k, (0x8000 ≤ k ∧ k ≤ 0x9FFF) ∨ (0xC000 ≤ k ∧ k ≤ 0xDFFF) ∨ (0xFE00 ≤ k ∧ k ≤ 0xFE9F) ∨ (0xFF80 ≤ k ∧ k ≤ 0xFFFE) →
    s.load k = init.ram.read .bus k) ∧
  ∀ size, s.cart.ramSize = some size → ∀ k < size, s.cartRam.read .cartRam k = init.cartRam.read .cartRam k

/-! ## The invariant of a running machine -/

/-- The addresses that have a byte of bus storage: video RAM, work RAM, the sprite table, and 0xFF00-0xFFFF (R62). -/
def isStorageKey (k : Nat) : Bool :=
  decide (0x8000 ≤ k ∧ k < 0xA000) || decide (0xC000 ≤ k ∧ k < 0xE000) || decide (0xFE00 ≤ k ∧ k < 0xFEA0)
    || decide (0xFF00 ≤ k ∧ k ≤ 0xFFFF)

/-- The four memories in canonical form, and no entry where no storage stands. -/
structure State.MemoryInv (s : State) : Prop where
  mem        : s.mem.wf .bus
  cartRam    : s.cartRam.wf .cartRam
  cartRom    : s.cart.rom.wf .cartRom
  bootRom    : s.bootRom.wf .bootRom
  memKeys    : ∀ c ∈ s.mem, isStorageKey c.1 = true
  bufferKeys : ∀ c ∈ s.cartRam, c.1 < s.cart.ramSize.getD 0

/-- The line counter that a mode allows (R352, R357, R358). -/
def lineInMode (m : Mode) (modeClock ly : Nat) : Prop :=
  match m with
  | .vBlank => ly = 144 + min 9 (modeClock / 456)
  | .hBlank | .spriteSearch | .pixelTransfer => ly < 144

/-- The display controller between steps: a disabled display rests in H-blank at line 0 (R352); the in-mode counter is below
its mode's threshold (R354); the line counter, the STAT mode bits (R359) and the gates (R361) agree with the mode; the STAT
match bit of an enabled display agrees with LY = LYC (R360). -/
structure State.DisplayInv (s : State) : Prop where
  disabled : s.display.enabled = false → s.display.mode = .hBlank ∧ s.display.modeClock = 0 ∧ s.load Port.LY = 0
  clock    : s.display.modeClock < s.display.mode.threshold
  line     : lineInMode s.display.mode s.display.modeClock (s.load Port.LY).toNat
  statMode : s.load Port.STAT &&& 3 = s.display.mode.code
  statLyc  : s.display.enabled = true → bit (s.load Port.STAT) 2 = decide (s.load Port.LY = s.load Port.LYC)
  vramGate : s.vramGate = s.display.mode.vramOpen
  oamGate  : s.oamGate = s.display.mode.oamOpen

/-- What holds between the steps of a machine that has not faulted. An EI is pending only at P_EI_DELAY = 1 and only while IME
is false, so that no interrupt service comes between EI and the next instruction (R304). -/
structure State.Inv (s : State) : Prop where
  memory    : s.MemoryInv
  display   : s.DisplayInv
  divAcc    : s.timer.divAcc < 256
  eiPending : s.params.eiDelay = .none → s.eiPending = false
  eiMasked  : s.eiPending = true → s.ime = false
  running   : s.fault = none

end Sys2Proof.Machine
end

