-- ==== Sys2Proof/Certificates/Slice0/Obligations.lean ====
section
/-! DEFINITION. The statements for the provers. Each docstring names the rules of spec/ it formalises. A statement about an
instruction gives its whole next state as an update of the state before, so every field not named is unchanged; a state
an access leaves (`State.Reads`) differs from the state before by the draw count alone, and what a processor write changes is
the subject of the bus statements. `Form.instr` names the instruction of a form; each instruction has one (Syntax.lean). -/

open Sys2Proof Sys2Proof.Machine

/-! ## Encoding -/

/-- Decoding the bytes of any well-formed instruction, whatever bytes follow, gives it back and the bytes after it
(30_encoding.md R110 to R123). -/
def Obligations.DecodeInvertsEncode : Prop :=
  ∀ (p : Config.StopLen) (i : Instr) (rest : List Byte), i.wf = true → decode p (encode p i ++ rest) = .ok (i, rest)

/-- Each decoded instruction is well formed, and its bytes are the only ones that decode to it, but for the byte STOP
ignores (R110, R122, R302). -/
def Obligations.EncodeInvertsDecode : Prop :=
  ∀ (p : Config.StopLen) (bytes : List Byte) (i : Instr) (rest : List Byte), decode p bytes = .ok (i, rest) →
    i.wf = true ∧ (i ≠ .stop → bytes = encode p i ++ rest) ∧
    (i = .stop → match p with
      | .one => bytes = 0x10 :: rest
      | .two => ∃ ignored, bytes = 0x10 :: ignored :: rest)

/-- The length of an instruction is a function of its first byte: the table of R110, over the opcodes of R116 and R119. -/
def Obligations.LengthFromFirstByte : Prop :=
  ∀ (p : Config.StopLen) (op : Byte),
    instrLength p op =
      (if op = 0xCB then 2
       else if op ∈ ([0x06, 0x0E, 0x16, 0x1E, 0x26, 0x2E, 0x36, 0x3E, 0xC6, 0xCE, 0xD6, 0xDE, 0xE6, 0xEE, 0xF6, 0xFE] ++
         [0xE0, 0xF0] ++ [0x18, 0x20, 0x28, 0x30, 0x38, 0xE8, 0xF8] : List Byte) then 2
       else if op ∈ ([0x01, 0x11, 0x21, 0x31] ++
         [0x08, 0xC2, 0xC3, 0xC4, 0xCA, 0xCC, 0xCD, 0xD2, 0xD4, 0xDA, 0xDC, 0xEA, 0xFA] : List Byte) then 3
       else if op = 0x10 then (match p with | .one => 1 | .two => 2)
       else 1) ∧
    ∀ (more : List Byte) (i : Instr) (rest : List Byte), decode p (op :: more) = .ok (i, rest) →
      (op :: more).length = instrLength p op + rest.length

/-- Every byte value decodes to an instruction, to the prefix, or to one of the eleven illegal opcodes; the prefix is 0xCB
(R121 to R123). -/
def Obligations.EveryByteDecodes : Prop :=
  ∀ (p : Config.StopLen) (op b1 b2 : Byte), ∃ i rest, decode p [op, b1, b2] = .ok (i, rest) ∧
    ((∃ x, i.form = .illegal x) ↔
      op ∈ ([0xD3, 0xDB, 0xDD, 0xE3, 0xE4, 0xEB, 0xEC, 0xED, 0xF4, 0xFC, 0xFD] : List Byte)) ∧
    ((∃ o x, i.form = .rot o x) ∨ (∃ k x, i.form = .bit k x) ∨ (∃ k x, i.form = .res k x) ∨ (∃ k x, i.form = .set k x) ↔
      op = 0xCB)

/-- The operand fields r, rr, qq and cc name what the tables of R112, R113 and R114 say, and cc tests the flag R271 says. The
registers they name are independent cells, and a pair is its two registers, the first-named one the high byte (R9, R20). -/
def Obligations.RegisterOperands : Prop :=
  [0, 1, 2, 3, 4, 5, 6, 7].map operandOf = [.reg .B, .reg .C, .reg .D, .reg .E, .reg .H, .reg .L, .mHL, .reg .A] ∧
  (∀ x : Operand8, operandOf x.code.toNat = x) ∧
  [0, 1, 2, 3].map reg16Of = [.BC, .DE, .HL, .SP] ∧ (∀ p : Reg16, reg16Of p.code.toNat = p) ∧
  [0, 1, 2, 3].map stackPairOf = [.BC, .DE, .HL, .AF] ∧ (∀ q : StackPair, stackPairOf q.code.toNat = q) ∧
  (∀ c : Cond, condOf c.code.toNat = c) ∧
  (∀ f : Flags, condHolds (condOf 0) f = !f.z ∧ condHolds (condOf 1) f = f.z ∧ condHolds (condOf 2) f = !f.c ∧
    condHolds (condOf 3) f = f.c) ∧
  (∀ s : State, (∀ v t, s.OperandReads .mHL v t ↔ s.Reads (pair s.regs.h s.regs.l) v t) ∧
    s.r16 .BC = pair s.regs.b s.regs.c ∧ s.r16 .DE = pair s.regs.d s.regs.e ∧ s.r16 .HL = pair s.regs.h s.regs.l ∧
    s.r16 .SP = s.sp ∧ s.stackPair .AF = pair s.regs.a (flagByte s.flags)) ∧
  (∀ (r : Regs) (x y : Reg8) (v : Byte), (r.put x v).get y = if y = x then v else r.get y) ∧
  (∀ (s : State) (p q : Reg16) (v : Word), (s.setR16 p v).r16 q = if q = p then v else s.r16 q) ∧
  (∀ v : Word, pair (hi v) (lo v) = v) ∧ (∀ h l : Byte, hi (pair h l) = h ∧ lo (pair h l) = l)

/-- Words written out from the spec's examples and encoding lines decode to the instructions they stand for, one or more
per family of the opcode table. -/
def Obligations.SpecWordsDecode : Prop :=
  decode .two [0x48] = .ok (.ld_C_B, []) ∧
  decode .two [0x3E, 0x45] = .ok (.ld_A_d8 0x45, []) ∧
  decode .two [0xEA, 0x40, 0xFF] = .ok (.ld_ma16_A 0xFF40, []) ∧
  decode .two [0x31, 0xFE, 0xFF] = .ok (.ld_SP_d16 0xFFFE, []) ∧
  decode .two [0xF5] = .ok (.push_AF, []) ∧
  decode .two [0x9C] = .ok (.sbc_A_H, []) ∧
  decode .two [0xE8, 0x02] = .ok (.add_SP_e8 2, []) ∧
  decode .two [0x18, 0xFE] = .ok (.jr_e8 (-2), []) ∧
  decode .two [0xCB, 0x7C] = .ok (.bit_7_H, []) ∧
  decode .two [0xCB, 0x37] = .ok (.swap_A, []) ∧
  decode .two [0xCB, 0xCB] = .ok (.set_1_E, []) ∧
  decode .two [0xC3, 0x50, 0x01] = .ok (.jp_a16 0x0150, []) ∧
  decode .two [0xEF] = .ok (.rst_28, []) ∧
  decode .two [0x10, 0x00] = .ok (.stop, []) ∧
  decode .two [0xDD] = .ok (.illegal_DD, [])

/-! ## Registers and flags -/

/-- F holds Z, N, H and C in bits 7 to 4 and zeros in its low nibble, always; a byte popped into F loses its low nibble
(10_state.md R22). -/
def Obligations.FlagRegisterPacking : Prop :=
  ∀ f : Flags, bit (flagByte f) 7 = f.z ∧ bit (flagByte f) 6 = f.n ∧ bit (flagByte f) 5 = f.h ∧ bit (flagByte f) 4 = f.c ∧
    (∀ k < 4, bit (flagByte f) k = false) ∧ flagsOfByte (flagByte f) = f ∧
    ∀ v : Byte, flagByte (flagsOfByte v) = v &&& 0xF0

/-! ## The bus -/

/-- Every address decodes to exactly one region, by the inclusive ranges of the table of R62; a processor write below 0x8000
reaches the bank controller's registers and nothing else, never ROM. Work RAM, its echo, high RAM, IE,
IF and every I/O byte no observer claims are plain storage: a write stores the byte and a read returns it; the echo is the
work RAM 0x2000 below it (R58, R64, R71, R77, R79). -/
def Obligations.AddressDecode : Prop :=
  (∀ a : Word,
    (region a = .fixedRom ↔ a.toNat ≤ 0x3FFF) ∧
    (region a = .bankedRom ↔ 0x4000 ≤ a.toNat ∧ a.toNat ≤ 0x7FFF) ∧
    (region a = .vram ↔ 0x8000 ≤ a.toNat ∧ a.toNat ≤ 0x9FFF) ∧
    (region a = .cartRam ↔ 0xA000 ≤ a.toNat ∧ a.toNat ≤ 0xBFFF) ∧
    (region a = .wram ↔ 0xC000 ≤ a.toNat ∧ a.toNat ≤ 0xDFFF) ∧
    (region a = .echo ↔ 0xE000 ≤ a.toNat ∧ a.toNat ≤ 0xFDFF) ∧
    (region a = .oam ↔ 0xFE00 ≤ a.toNat ∧ a.toNat ≤ 0xFE9F) ∧
    (region a = .unusable ↔ 0xFEA0 ≤ a.toNat ∧ a.toNat ≤ 0xFEFF) ∧
    (region a = .io ↔ 0xFF00 ≤ a.toNat ∧ a.toNat ≤ 0xFF7F) ∧
    (region a = .hram ↔ 0xFF80 ≤ a.toNat ∧ a.toNat ≤ 0xFFFE) ∧
    (region a = .ie ↔ a.toNat = 0xFFFF)) ∧
  (∀ (s : State) (a : Word) (v : Byte), a.toNat ≤ 0x7FFF → ∃ b, memWrite a v s = .ok { s with bank := b }) ∧
  (∀ (s : State) (a : Word) (v : Byte), plainAddress a = true →
    memWrite a v s = .ok (s.store (storageKey a) v) ∧
    memRead a s = .ok (s.load (storageKey a), s) ∧
    memRead a (s.store (storageKey a) v) = .ok (v, s.store (storageKey a) v)) ∧
  (∀ a : Word, region a = .wram → storageKey a = a.toNat) ∧
  (∀ a : Word, region a = .echo → storageKey a = storageKey (a - 0x2000) ∧ region (a - 0x2000) = .wram)

/-- With its gate open a byte of video RAM or of the sprite table is storage; with it closed a read returns 0x00 and a write
is dropped (R69, R70). The unusable region reads as zero and ignores writes (R65). -/
def Obligations.GatedRegions : Prop :=
  ∀ (s : State) (a : Word) (v : Byte),
    (region a = .vram → s.vramGate = true →
      memRead a s = .ok (s.load a.toNat, s) ∧ memWrite a v s = .ok (s.store a.toNat v) ∧
      memRead a (s.store a.toNat v) = .ok (v, s.store a.toNat v)) ∧
    (region a = .vram → s.vramGate = false → memRead a s = .ok (0x00, s) ∧ memWrite a v s = .ok s) ∧
    (region a = .oam → s.oamGate = true →
      memRead a s = .ok (s.load a.toNat, s) ∧ memWrite a v s = .ok (s.store a.toNat v) ∧
      memRead a (s.store a.toNat v) = .ok (v, s.store a.toNat v)) ∧
    (region a = .oam → s.oamGate = false → memRead a s = .ok (0x00, s) ∧ memWrite a v s = .ok s) ∧
    (0xFEA0 ≤ a.toNat → a.toNat ≤ 0xFEFF → memRead a s = .ok (0x00, s) ∧ memWrite a v s = .ok s)

/-- A write to 0x0000-0x7FFF sets the bank controller's registers as R84 to R87 say, for every kind but none (R88). -/
def Obligations.BankRegisterWrites : Prop :=
  ∀ (s : State) (a : Word) (v : Byte),
    (s.cart.kind = .none → a.toNat ≤ 0x7FFF → memWrite a v s = .ok s) ∧
    (s.cart.kind ≠ .none → a.toNat ≤ 0x1FFF →
      memWrite a v s = .ok { s with bank := { s.bank with ramEnabled := decide (v.toNat % 16 = 0x0A) } }) ∧
    (s.cart.kind ≠ .none → 0x2000 ≤ a.toNat → a.toNat ≤ 0x3FFF → ∃ b : BitVec 7,
      b.toNat = s.bank.romBank.toNat / 32 * 32 + v.toNat % 32 ∧
      memWrite a v s = .ok { s with bank := { s.bank with romBank := b } }) ∧
    (s.cart.kind ≠ .none → 0x4000 ≤ a.toNat → a.toNat ≤ 0x5FFF → s.bank.bankingMode = 1 → ∃ b : BitVec 2,
      b.toNat = v.toNat % 4 ∧ memWrite a v s = .ok { s with bank := { s.bank with ramBank := b } }) ∧
    (s.cart.kind ≠ .none → 0x4000 ≤ a.toNat → a.toNat ≤ 0x5FFF → s.bank.bankingMode = 0 → ∃ b : BitVec 7,
      b.toNat = v.toNat % 4 * 32 + s.bank.romBank.toNat % 32 ∧
      memWrite a v s = .ok { s with bank := { s.bank with romBank := b } }) ∧
    (s.cart.kind ≠ .none → 0x6000 ≤ a.toNat → a.toNat ≤ 0x7FFF → ∃ m : BitVec 1,
      m.toNat = v.toNat % 2 ∧ memWrite a v s = .ok { s with bank := { s.bank with bankingMode := m } })

/-- What a read of 0x0000-0x7FFF meets: the bootstrap image below 0x0100 while the latch is set (R63), else the fixed bank
(R90) or the switched bank with the alias skip (R89), inside the image or out of range (R92). -/
def Obligations.CartridgeReads : Prop :=
  ∀ (s : State) (a : Word),
    (s.booting = true → a.toNat < 0x0100 → memRead a s = .ok (s.byteAt .bootRom a.toNat, s)) ∧
    (∀ off : Nat,
      (a.toNat ≤ 0x3FFF ∧ (s.booting = false ∨ 0x0100 ≤ a.toNat) ∧ off = a.toNat) ∨
      (0x4000 ≤ a.toNat ∧ a.toNat ≤ 0x7FFF ∧ s.bank.romBank.toNat ≤ 1 ∧ off = a.toNat) ∨
      (0x4000 ≤ a.toNat ∧ a.toNat ≤ 0x7FFF ∧ 1 < s.bank.romBank.toNat ∧
        ∃ b : Nat, off = b * 0x4000 + (a.toNat - 0x4000) ∧
          b = if s.cart.kind = .type1 ∧ s.bank.romBank.toNat ∈ [0x20, 0x40, 0x60] then s.bank.romBank.toNat + 1
              else s.bank.romBank.toNat) →
      (off < s.cart.romSize → memRead a s = .ok (s.byteAt .cartRom off, s)) ∧
      (s.cart.romSize ≤ off → memRead a s =
        .error (.cartridgeOutOfRange off (s.stopped (.cartridgeOutOfRange off)))))

/-- An access to 0xA000-0xBFFF reaches the external RAM where it is present and enabled and the offset is inside the buffer,
faults where it is outside; absent or disabled, a write has no effect and a read returns an unspecified byte (R91, R92). -/
def Obligations.CartridgeRam : Prop :=
  ∀ (s : State) (a : Word) (v : Byte), 0xA000 ≤ a.toNat → a.toNat ≤ 0xBFFF →
    (∀ size off : Nat, s.cart.ramSize = some size → s.bank.ramEnabled = true →
      off = (if s.cart.kind = .type2 then a.toNat - 0xA000 else s.bank.ramBank.toNat * 0x2000 + (a.toNat - 0xA000)) →
      (off < size →
        memRead a s = .ok (s.byteAt .cartRam off, s) ∧
        memWrite a v s = .ok { s with cartRam := s.cartRam.write .cartRam off v } ∧
        memRead a { s with cartRam := s.cartRam.write .cartRam off v } =
          .ok (v, { s with cartRam := s.cartRam.write .cartRam off v })) ∧
      (size ≤ off →
        memRead a s = .error (.cartridgeOutOfRange off (s.stopped (.cartridgeOutOfRange off))) ∧
        memWrite a v s = .error (.cartridgeOutOfRange off (s.stopped (.cartridgeOutOfRange off))))) ∧
    (s.cart.ramSize = none ∨ s.bank.ramEnabled = false →
      memRead a s = .ok (Config.freeByte s.draws, { s with draws := s.draws + 1 }) ∧ memWrite a v s = .ok s)

/-- The observers of the I/O block. DIV is zeroed whatever is written, its accumulator by P_DIV_RESET_ACC (R72); a nonzero write
to BOOT clears the latch (R74); a write to LY faults (R75); a write to SC with bit 7 set appends SB to the serial log (R76);
each of them reads as stored. A read of P1 returns the host's synthesis from the stored select byte and the buttons, 0xEF
where there is none; a write stores the select byte (R78). -/
def Obligations.ObservedPorts : Prop :=
  ∀ (s : State) (v : Byte),
    memRead 0xFF04 s = .ok (s.load Port.DIV, s) ∧ memRead 0xFF50 s = .ok (s.load Port.BOOT, s) ∧
    memRead 0xFF44 s = .ok (s.load Port.LY, s) ∧ memRead 0xFF02 s = .ok (s.load Port.SC, s) ∧
    memWrite 0xFF04 v s = .ok (if s.params.divResetAcc
      then { s.store Port.DIV 0 with timer := { s.timer with divAcc := 0 } } else s.store Port.DIV 0) ∧
    memWrite 0xFF50 v s = .ok (if v = 0 then s.store Port.BOOT v else { s.store Port.BOOT v with booting := false }) ∧
    memWrite 0xFF44 v s = .error (.unspecifiedWrite 0xFF44 v (s.stopped (.unspecifiedWrite 0xFF44 v))) ∧
    memWrite 0xFF02 v s = .ok (if bit v 7
      then { s.store Port.SC v with serialLog := s.serialLog ++ [s.load Port.SB] } else s.store Port.SC v) ∧
    (s.params.joypad = .host → memRead 0xFF00 s = .ok (Config.joypad (s.load Port.P1) s.buttons, s)) ∧
    (s.params.joypad = .absent → memRead 0xFF00 s = .ok (0xEF, s)) ∧
    memWrite 0xFF00 v s = .ok (s.store Port.P1 v)

/-- At the model's option P_JOYPAD = "conventional" (log entry 7), a read of P1 returns the synthesis of
93_implementation_defined.md I12: bits 7 and 6 set, the stored select bits, and a low nibble in which a pressed button of a
selected group reads as 0. -/
def Obligations.ConventionalJoypad : Prop :=
  ∀ s : State, s.params.joypad = .conventional → ∃ w : Byte, memRead 0xFF00 s = .ok (w, s) ∧
    bit w 7 = true ∧ bit w 6 = true ∧ bit w 5 = bit (s.load Port.P1) 5 ∧ bit w 4 = bit (s.load Port.P1) 4 ∧
    bit w 3 = !((!bit (s.load Port.P1) 4 && s.buttons.down) || (!bit (s.load Port.P1) 5 && s.buttons.start)) ∧
    bit w 2 = !((!bit (s.load Port.P1) 4 && s.buttons.up) || (!bit (s.load Port.P1) 5 && s.buttons.select)) ∧
    bit w 1 = !((!bit (s.load Port.P1) 4 && s.buttons.left) || (!bit (s.load Port.P1) 5 && s.buttons.b)) ∧
    bit w 0 = !((!bit (s.load Port.P1) 4 && s.buttons.right) || (!bit (s.load Port.P1) 5 && s.buttons.a))

/-- A write to DMA runs the loop of R73: for i from 0 to 159 one processor read of page v at i and one store into the sprite
table, whatever its gate is. It changes nothing but the sprite table and the count of drawn bytes, and a later read of DMA
is an unspecified byte. -/
def Obligations.DmaCopy : Prop :=
  ∀ (s : State) (v : Byte), (∀ i < 160, s.Readable (pair v 0 + BitVec.ofNat 16 i)) →
    ∃ u : Nat → State, u 0 = s ∧ memWrite 0xFF46 v s = .ok (u 160) ∧
      (∀ i < 160, ∃ b w, (u i).Reads (pair v 0 + BitVec.ofNat 16 i) b w ∧ u (i + 1) = w.store (0xFE00 + i) b) ∧
      u 160 = { s with mem := (u 160).mem, draws := (u 160).draws } ∧
      (∀ k, ¬ (0xFE00 ≤ k ∧ k < 0xFEA0) → (u 160).load k = s.load k) ∧
      (∀ i < 160, ∀ b, v ≠ 0xFE → busView s (pair v 0 + BitVec.ofNat 16 i) = .stored b → (u 160).load (0xFE00 + i) = b) ∧
      memRead 0xFF46 (u 160) = .ok (Config.freeByte (u 160).draws, { u 160 with draws := (u 160).draws + 1 })

/-- A processor write runs to completion exactly when it is not to LY, not outside the cartridge RAM buffer, and not a DMA
copy that reads outside the cartridge (R75, R91, R92, R73). -/
def Obligations.WriteCompletesExactlyWhenWritable : Prop :=
  ∀ (s : State) (a : Word) (v : Byte), (∃ t, memWrite a v s = .ok t) ↔ s.Writable a v

/-- What a processor write leaves alone: every byte outside the ones it stores to, every register and flag, the display and
the gates; and the banks, the timer, the latch, the serial log and the draw count but for the address each belongs to. -/
def Obligations.WriteFrame : Prop :=
  ∀ (s t : State) (a : Word) (v : Byte), memWrite a v s = .ok t →
    (∀ st k, storesTo s a st k = false → t.byteAt st k = s.byteAt st k) ∧
    t = { s with mem := t.mem, cartRam := t.cartRam, bank := t.bank, timer := t.timer, booting := t.booting,
                 serialLog := t.serialLog, draws := t.draws } ∧
    (0x8000 ≤ a.toNat → t.bank = s.bank) ∧ (a ≠ 0xFF04 → t.timer = s.timer) ∧ (a ≠ 0xFF50 → t.booting = s.booting) ∧
    (a ≠ 0xFF02 → t.serialLog = s.serialLog) ∧ (a ≠ 0xFF46 → t.draws = s.draws)

/-- A two-byte access is two one-byte accesses: a read takes the low byte at a, then the high byte at a + 1; a write stores
the low byte at a, then the high byte at a + 1, and after 0xFFFF comes 0x0000 (R11, R66, R68). A push stores the high byte at
SP - 1, then the low byte at SP - 2, and leaves SP there; a pop reads the low byte at SP, then the high byte at SP + 1, and
leaves SP + 2, mod 2^16; what is pushed onto plain storage is what is popped (R150, R151). -/
def Obligations.TwoByteAccesses : Prop :=
  (∀ (s t u : State) (a : Word) (l h : Byte), s.Reads a l t → t.Reads (a + 1) h u →
    memRead16 a s = .ok (pair h l, u)) ∧
  (∀ (s t : State) (a v : Word), memWrite a (lo v) s = .ok t → memWrite16 a v s = memWrite (a + 1) (hi v) t) ∧
  (∀ (s : State) (v : Word), s.cart.kind ≠ .none →
    memWrite16 0xFFFF v s = .ok { s.store Port.IE (lo v) with
      bank := { s.bank with ramEnabled := decide ((hi v).toNat % 16 = 0x0A) } }) ∧
  (∀ (s : State) (v : Word), s.PushWritable v → ∃ t u,
    memWrite (s.sp - 1) (hi v) { s with sp := s.sp - 1 } = .ok t ∧
    memWrite (s.sp - 2) (lo v) { t with sp := s.sp - 2 } = .ok u ∧ push16 v s = .ok u ∧ u.sp = s.sp - 2) ∧
  (∀ (s t : State) (w : Word), s.ReadsWord s.sp w t → pop16 s = .ok (w, { t with sp := s.sp + 2 })) ∧
  (∀ (s : State) (v : Word), plainAddress (s.sp - 1) = true → plainAddress (s.sp - 2) = true →
      ∃ t, push16 v s = .ok t ∧ pop16 t = .ok (v, { t with sp := s.sp }))

/-! ## Loads and stores -/

/-- LD r,r' (R131), LD r,d8 and LD (HL),d8 (R134), LD rr,d16 (R147) and LD SP,HL (R149): encoding, result, cost, and nothing
else changed. The store completes wherever it is writable, and where the write faults the instruction faults. -/
def Obligations.RegisterAndImmediateLoads : Prop :=
  (∀ (p : Config.StopLen) (d : Reg8) (n : Byte) (s : State),
    encode p (Form.instr (.ldRI d n)) = [0b00#2 ++ d.code ++ 0b110#3, n] ∧
    exec (Form.instr (.ldRI d n)) s = .next { s.setR8 d n with cost := 8 }) ∧
  (∀ (p : Config.StopLen) (n : Byte) (s : State), encode p (Form.instr (.ldMI n)) = [0x36, n] ∧
    (s.Writable s.hl n → ∃ t, memWrite s.hl n s = .ok t ∧
      exec (Form.instr (.ldMI n)) s = .next { t with cost := 12 }) ∧
    ∀ f, memWrite s.hl n s = .error f → exec (Form.instr (.ldMI n)) s = .fault f) ∧
  (∀ (p : Config.StopLen) (d x : Reg8) (s : State),
    encode p (Form.instr (.ldRR d x)) = [0b01#2 ++ d.code ++ x.code] ∧
    exec (Form.instr (.ldRR d x)) s = .next { s.setR8 d (s.r8 x) with cost := 4 }) ∧
  (∀ (p : Config.StopLen) (rr : Reg16) (w : Word) (s : State),
    encode p (Form.instr (.ldRrI rr w)) = [0b00#2 ++ rr.code ++ 0b0001#4, lo w, hi w] ∧
    exec (Form.instr (.ldRrI rr w)) s = .next { s.setR16 rr w with cost := 12 }) ∧
  ∀ (p : Config.StopLen) (s : State),
    encode p (Form.instr .ldSPHL) = [0xF9] ∧ exec (Form.instr .ldSPHL) s = .next { s with sp := s.hl, cost := 8 }

/-- LD r,(HL) (R132), LD A,(BC) and LD A,(DE) (R135), LD A,(a16) (R137), LD A,(HL+) (R144) and LD A,(HL-) (R146): the byte a
processor read gives, the address taken before a register is written, and HL moved by one mod 2^16 after; a read out of
range faults with nothing changed. LDH A,(a8) (R139) and LD A,(C) (R141) complete in every state. -/
def Obligations.MemoryLoads : Prop :=
  (∀ (p : Config.StopLen) (d : Reg8), encode p (Form.instr (.ldRM d)) = [0b01#2 ++ d.code ++ 0b110#3]) ∧
  (∀ p : Config.StopLen, encode p (Form.instr (.ldAInd .BC)) = [0x0A] ∧ encode p (Form.instr (.ldAInd .DE)) = [0x1A]) ∧
  (∀ (p : Config.StopLen) (w : Word), encode p (Form.instr (.ldAAbs w)) = [0xFA, lo w, hi w]) ∧
  (∀ (s t : State) (v : Byte) (d : Reg8), s.Reads s.hl v t →
    exec (Form.instr (.ldRM d)) s = .next { t.setR8 d v with cost := 8 }) ∧
  (∀ (s t : State) (v : Byte), s.Reads (pair s.regs.b s.regs.c) v t →
    exec (Form.instr (.ldAInd .BC)) s = .next { t.setR8 .A v with cost := 8 }) ∧
  (∀ (s t : State) (v : Byte), s.Reads (pair s.regs.d s.regs.e) v t →
    exec (Form.instr (.ldAInd .DE)) s = .next { t.setR8 .A v with cost := 8 }) ∧
  (∀ (s t : State) (v : Byte) (w : Word), s.Reads w v t →
    exec (Form.instr (.ldAAbs w)) s = .next { t.setR8 .A v with cost := 16 }) ∧
  (∀ (s : State) (d : Reg8) (off : Nat), busView s s.hl = .outOfRange off →
    exec (Form.instr (.ldRM d)) s = faulted (.cartridgeOutOfRange off) s) ∧
  (∀ (s : State) (q : IndirectPair) (off : Nat), busView s (s.indirect q) = .outOfRange off →
    exec (Form.instr (.ldAInd q)) s = faulted (.cartridgeOutOfRange off) s) ∧
  (∀ (s : State) (w : Word) (off : Nat), busView s w = .outOfRange off →
    exec (Form.instr (.ldAAbs w)) s = faulted (.cartridgeOutOfRange off) s) ∧
  (∀ p : Config.StopLen, encode p (Form.instr .ldAInc) = [0x2A] ∧ encode p (Form.instr .ldADec) = [0x3A]) ∧
  (∀ (s t : State) (v : Byte), s.Reads s.hl v t →
    exec (Form.instr .ldAInc) s = .next { (t.setR8 .A v).setHL (s.hl + 1) with cost := 8 } ∧
    exec (Form.instr .ldADec) s = .next { (t.setR8 .A v).setHL (s.hl - 1) with cost := 8 }) ∧
  (∀ (s : State) (off : Nat), busView s s.hl = .outOfRange off →
    exec (Form.instr .ldAInc) s = faulted (.cartridgeOutOfRange off) s ∧
    exec (Form.instr .ldADec) s = faulted (.cartridgeOutOfRange off) s) ∧
  (∀ (p : Config.StopLen) (n : Byte), encode p (Form.instr (.ldhAI n)) = [0xF0, n] ∧
    encode p (Form.instr .ldAC) = [0xF2]) ∧
  (∀ (s : State) (n : Byte), ∃ v t, s.Reads (0xFF00 + n.setWidth 16) v t ∧
    exec (Form.instr (.ldhAI n)) s = .next { t.setR8 .A v with cost := 12 }) ∧
  (∀ s : State, ∃ v t, s.Reads (0xFF00 + s.regs.c.setWidth 16) v t ∧
    exec (Form.instr .ldAC) s = .next { t.setR8 .A v with cost := 8 })

/-- LD (HL),r (R133), LD (BC),A and LD (DE),A (R136), LD (a16),A (R138), LDH (a8),A (R140), LD (C),A (R142), LD (HL+),A (R143)
and LD (HL-),A (R145): the byte written by a processor write, HL then moved by one mod 2^16, and not moved where the write
faults; the write of LY always faults. A write of DMA whose copy reads outside the cartridge faults there (R73, R92): the bytes
before that index are copied, and nothing else but the draw count has changed. -/
def Obligations.MemoryStores : Prop :=
  (∀ (p : Config.StopLen) (x : Reg8), encode p (Form.instr (.ldMR x)) = [0b01110#5 ++ x.code]) ∧
  (∀ p : Config.StopLen, encode p (Form.instr (.ldIndA .BC)) = [0x02] ∧ encode p (Form.instr (.ldIndA .DE)) = [0x12]) ∧
  (∀ (p : Config.StopLen) (w : Word), encode p (Form.instr (.ldAbsA w)) = [0xEA, lo w, hi w]) ∧
  (∀ (s : State) (x : Reg8), s.Writable s.hl (s.r8 x) → ∃ t, memWrite s.hl (s.r8 x) s = .ok t ∧
    exec (Form.instr (.ldMR x)) s = .next { t with cost := 8 }) ∧
  (∀ s : State, s.Writable (pair s.regs.b s.regs.c) s.regs.a →
    ∃ t, memWrite (pair s.regs.b s.regs.c) s.regs.a s = .ok t ∧
      exec (Form.instr (.ldIndA .BC)) s = .next { t with cost := 8 }) ∧
  (∀ s : State, s.Writable (pair s.regs.d s.regs.e) s.regs.a →
    ∃ t, memWrite (pair s.regs.d s.regs.e) s.regs.a s = .ok t ∧
      exec (Form.instr (.ldIndA .DE)) s = .next { t with cost := 8 }) ∧
  (∀ (s : State) (w : Word), s.Writable w s.regs.a → ∃ t, memWrite w s.regs.a s = .ok t ∧
    exec (Form.instr (.ldAbsA w)) s = .next { t with cost := 16 }) ∧
  (∀ (s : State) (x : Reg8) (f : Fault), memWrite s.hl (s.r8 x) s = .error f →
    exec (Form.instr (.ldMR x)) s = .fault f) ∧
  (∀ (s : State) (q : IndirectPair) (f : Fault), memWrite (s.indirect q) s.regs.a s = .error f →
    exec (Form.instr (.ldIndA q)) s = .fault f) ∧
  (∀ (s : State) (w : Word) (f : Fault), memWrite w s.regs.a s = .error f →
    exec (Form.instr (.ldAbsA w)) s = .fault f) ∧
  (∀ p : Config.StopLen, encode p (Form.instr .ldIncA) = [0x22] ∧ encode p (Form.instr .ldDecA) = [0x32]) ∧
  (∀ s : State, s.Writable s.hl s.regs.a → ∃ t, memWrite s.hl s.regs.a s = .ok t ∧
    exec (Form.instr .ldIncA) s = .next { t.setHL (s.hl + 1) with cost := 8 } ∧
    exec (Form.instr .ldDecA) s = .next { t.setHL (s.hl - 1) with cost := 8 }) ∧
  (∀ (s : State) (f : Fault), memWrite s.hl s.regs.a s = .error f →
    exec (Form.instr .ldIncA) s = .fault f ∧ exec (Form.instr .ldDecA) s = .fault f ∧ f.final.hl = s.hl) ∧
  (∀ (p : Config.StopLen) (n : Byte), encode p (Form.instr (.ldhIA n)) = [0xE0, n] ∧
    encode p (Form.instr .ldCA) = [0xE2]) ∧
  (∀ (s : State) (n : Byte), n ≠ 0x44 → (n = 0x46 → ∀ i < 160, s.Readable (pair s.regs.a 0 + BitVec.ofNat 16 i)) →
    ∃ t, memWrite (0xFF00 + n.setWidth 16) s.regs.a s = .ok t ∧
      exec (Form.instr (.ldhIA n)) s = .next { t with cost := 12 } ∧
      (s.regs.c = n → exec (Form.instr .ldCA) s = .next { t with cost := 8 })) ∧
  (∀ s : State, exec (Form.instr (.ldhIA 0x44)) s = faulted (.unspecifiedWrite 0xFF44 s.regs.a) s ∧
    (s.regs.c = 0x44 → exec (Form.instr .ldCA) s = faulted (.unspecifiedWrite 0xFF44 s.regs.a) s)) ∧
  ∀ (s : State) (i off : Nat), i < 160 → (∀ j < i, s.Readable (pair s.regs.a 0 + BitVec.ofNat 16 j)) →
    busView s (pair s.regs.a 0 + BitVec.ofNat 16 i) = .outOfRange off →
    ∃ u : State, u = { s with mem := u.mem, draws := u.draws } ∧
      (∀ j < i, ∀ b, busView s (pair s.regs.a 0 + BitVec.ofNat 16 j) = .stored b → u.load (0xFE00 + j) = b) ∧
      (∀ k, ¬ (0xFE00 ≤ k ∧ k < 0xFE00 + i) → u.load k = s.load k) ∧
      exec (Form.instr (.ldhIA 0x46)) s = faulted (.cartridgeOutOfRange off) u ∧
      (s.regs.c = 0x46 → exec (Form.instr .ldCA) s = faulted (.cartridgeOutOfRange off) u)

/-- LD (a16),SP (R148): the low byte of SP at a16, then the high byte at a16 + 1. PUSH qq (R152), POP qq (R153) and POP AF
(R154): AF pushes the packed flags, and POP AF writes A and the four flags from bits 7 to 4 of the low byte. A fault of an
access is the instruction's. -/
def Obligations.StackTransfers : Prop :=
  (∀ (p : Config.StopLen) (w : Word), encode p (Form.instr (.ldAbsSP w)) = [0x08, lo w, hi w]) ∧
  (∀ (s : State) (w : Word), s.Writable w (lo s.sp) → s.Writable (w + 1) (hi s.sp) →
    ∃ t u, memWrite w (lo s.sp) s = .ok t ∧ memWrite (w + 1) (hi s.sp) t = .ok u ∧
      exec (Form.instr (.ldAbsSP w)) s = .next { u with cost := 20 }) ∧
  (∀ (s : State) (w : Word) (f : Fault), memWrite w (lo s.sp) s = .error f →
    exec (Form.instr (.ldAbsSP w)) s = .fault f) ∧
  (∀ (s t : State) (w : Word) (f : Fault), memWrite w (lo s.sp) s = .ok t → memWrite (w + 1) (hi s.sp) t = .error f →
    exec (Form.instr (.ldAbsSP w)) s = .fault f) ∧
  (∀ (p : Config.StopLen) (q : StackPair), encode p (Form.instr (.push q)) = [0b11#2 ++ q.code ++ 0b0101#4] ∧
    encode p (Form.instr (.pop q)) = [0b11#2 ++ q.code ++ 0b0001#4]) ∧
  (∀ (s : State) (q : StackPair), s.PushWritable (s.stackPair q) → ∃ t, push16 (s.stackPair q) s = .ok t ∧
    exec (Form.instr (.push q)) s = .next { t with cost := 16 }) ∧
  (∀ (s : State) (q : StackPair) (f : Fault), push16 (s.stackPair q) s = .error f →
    exec (Form.instr (.push q)) s = .fault f) ∧
  (∀ (s t : State) (w : Word), s.ReadsWord s.sp w t →
    exec (Form.instr (.pop .BC)) s = .next { { t with sp := s.sp + 2 }.setR16 .BC w with cost := 12 } ∧
    exec (Form.instr (.pop .DE)) s = .next { { t with sp := s.sp + 2 }.setR16 .DE w with cost := 12 } ∧
    exec (Form.instr (.pop .HL)) s = .next { { t with sp := s.sp + 2 }.setR16 .HL w with cost := 12 } ∧
    exec (Form.instr (.pop .AF)) s = .next { ({ t with sp := s.sp + 2 }.setR8 .A (hi w)).setFlags
      { z := bit (lo w) 7, n := bit (lo w) 6, h := bit (lo w) 5, c := bit (lo w) 4 } with cost := 12 }) ∧
  (∀ (s : State) (q : StackPair) (f : Fault), pop16 s = .error f → exec (Form.instr (.pop q)) s = .fault f)

/-! ## 8-bit arithmetic and logic -/

/-- ADD and ADC in every operand form (R170 to R173): the sum mod 256, and Z, H and C as the carries of the integer sum. The memory form
stops with the fault of its read. -/
def Obligations.AddWithCarry : Prop :=
  (∀ (p : Config.StopLen) (x : Operand8) (n : Byte),
    encode p (Form.instr (.alu .add x)) = [0b10000#5 ++ x.code] ∧ encode p (Form.instr (.aluI .add n)) = [0xC6, n] ∧
    encode p (Form.instr (.alu .adc x)) = [0b10001#5 ++ x.code] ∧ encode p (Form.instr (.aluI .adc n)) = [0xCE, n]) ∧
  (∀ (s t : State) (x : Operand8) (v : Byte), s.OperandReads x v t →
    exec (Form.instr (.alu .add x)) s = .next { (t.setR8 .A (sumByte s.regs.a v false)).setFlags
      (sumFlags s.regs.a v false) with cost := operandCost x 4 8 } ∧
    exec (Form.instr (.alu .adc x)) s = .next { (t.setR8 .A (sumByte s.regs.a v s.flags.c)).setFlags
      (sumFlags s.regs.a v s.flags.c) with cost := operandCost x 4 8 }) ∧
  (∀ (s : State) (n : Byte),
    exec (Form.instr (.aluI .add n)) s = .next { (s.setR8 .A (sumByte s.regs.a n false)).setFlags
      (sumFlags s.regs.a n false) with cost := 8 } ∧
    exec (Form.instr (.aluI .adc n)) s = .next { (s.setR8 .A (sumByte s.regs.a n s.flags.c)).setFlags
      (sumFlags s.regs.a n s.flags.c) with cost := 8 }) ∧
  (∀ (s : State) (off : Nat), busView s s.hl = .outOfRange off →
    exec (Form.instr (.alu .add .mHL)) s = faulted (.cartridgeOutOfRange off) s ∧
    exec (Form.instr (.alu .adc .mHL)) s = faulted (.cartridgeOutOfRange off) s)

/-- SUB, SBC and CP in every operand form (R170, R171, R174 to R176): the difference mod 256, which CP does not store, and Z,
H and C as the borrows of the integer difference. The memory form
stops with the fault of its read. -/
def Obligations.SubtractAndCompare : Prop :=
  (∀ (p : Config.StopLen) (x : Operand8) (n : Byte),
    encode p (Form.instr (.alu .sub x)) = [0b10010#5 ++ x.code] ∧ encode p (Form.instr (.aluI .sub n)) = [0xD6, n] ∧
    encode p (Form.instr (.alu .sbc x)) = [0b10011#5 ++ x.code] ∧ encode p (Form.instr (.aluI .sbc n)) = [0xDE, n] ∧
    encode p (Form.instr (.alu .cp x)) = [0b10111#5 ++ x.code] ∧ encode p (Form.instr (.aluI .cp n)) = [0xFE, n]) ∧
  (∀ (s t : State) (x : Operand8) (v : Byte), s.OperandReads x v t →
    exec (Form.instr (.alu .sub x)) s = .next { (t.setR8 .A (differenceByte s.regs.a v false)).setFlags
      (differenceFlags s.regs.a v false) with cost := operandCost x 4 8 } ∧
    exec (Form.instr (.alu .sbc x)) s = .next { (t.setR8 .A (differenceByte s.regs.a v s.flags.c)).setFlags
      (differenceFlags s.regs.a v s.flags.c) with cost := operandCost x 4 8 } ∧
    exec (Form.instr (.alu .cp x)) s = .next { t.setFlags (differenceFlags s.regs.a v false) with
      cost := operandCost x 4 8 }) ∧
  (∀ (s : State) (n : Byte),
    exec (Form.instr (.aluI .sub n)) s = .next { (s.setR8 .A (differenceByte s.regs.a n false)).setFlags
      (differenceFlags s.regs.a n false) with cost := 8 } ∧
    exec (Form.instr (.aluI .sbc n)) s = .next { (s.setR8 .A (differenceByte s.regs.a n s.flags.c)).setFlags
      (differenceFlags s.regs.a n s.flags.c) with cost := 8 } ∧
    exec (Form.instr (.aluI .cp n)) s = .next { s.setFlags (differenceFlags s.regs.a n false) with cost := 8 }) ∧
  (∀ (s : State) (off : Nat), busView s s.hl = .outOfRange off →
    exec (Form.instr (.alu .sub .mHL)) s = faulted (.cartridgeOutOfRange off) s ∧
    exec (Form.instr (.alu .sbc .mHL)) s = faulted (.cartridgeOutOfRange off) s ∧
    exec (Form.instr (.alu .cp .mHL)) s = faulted (.cartridgeOutOfRange off) s)

/-- AND, XOR and OR in every operand form (R177 to R179): AND sets H, the others clear it; all clear N and C. The memory form
stops with the fault of its read. -/
def Obligations.LogicalOperations : Prop :=
  (∀ (p : Config.StopLen) (x : Operand8) (n : Byte),
    encode p (Form.instr (.alu .and x)) = [0b10100#5 ++ x.code] ∧ encode p (Form.instr (.aluI .and n)) = [0xE6, n] ∧
    encode p (Form.instr (.alu .xor x)) = [0b10101#5 ++ x.code] ∧ encode p (Form.instr (.aluI .xor n)) = [0xEE, n] ∧
    encode p (Form.instr (.alu .or x)) = [0b10110#5 ++ x.code] ∧ encode p (Form.instr (.aluI .or n)) = [0xF6, n]) ∧
  (∀ (s t : State) (x : Operand8) (v : Byte), s.OperandReads x v t →
    exec (Form.instr (.alu .and x)) s = .next { (t.setR8 .A (s.regs.a &&& v)).setFlags
      { z := decide (s.regs.a &&& v = 0), n := false, h := true, c := false } with cost := operandCost x 4 8 } ∧
    exec (Form.instr (.alu .xor x)) s = .next { (t.setR8 .A (s.regs.a ^^^ v)).setFlags
      { z := decide (s.regs.a ^^^ v = 0), n := false, h := false, c := false } with cost := operandCost x 4 8 } ∧
    exec (Form.instr (.alu .or x)) s = .next { (t.setR8 .A (s.regs.a ||| v)).setFlags
      { z := decide (s.regs.a ||| v = 0), n := false, h := false, c := false } with cost := operandCost x 4 8 }) ∧
  (∀ (s : State) (n : Byte),
    exec (Form.instr (.aluI .and n)) s = .next { (s.setR8 .A (s.regs.a &&& n)).setFlags
      { z := decide (s.regs.a &&& n = 0), n := false, h := true, c := false } with cost := 8 } ∧
    exec (Form.instr (.aluI .xor n)) s = .next { (s.setR8 .A (s.regs.a ^^^ n)).setFlags
      { z := decide (s.regs.a ^^^ n = 0), n := false, h := false, c := false } with cost := 8 } ∧
    exec (Form.instr (.aluI .or n)) s = .next { (s.setR8 .A (s.regs.a ||| n)).setFlags
      { z := decide (s.regs.a ||| n = 0), n := false, h := false, c := false } with cost := 8 }) ∧
  (∀ (s : State) (off : Nat), busView s s.hl = .outOfRange off →
    exec (Form.instr (.alu .and .mHL)) s = faulted (.cartridgeOutOfRange off) s ∧
    exec (Form.instr (.alu .xor .mHL)) s = faulted (.cartridgeOutOfRange off) s ∧
    exec (Form.instr (.alu .or .mHL)) s = faulted (.cartridgeOutOfRange off) s)

/-- INC r (R180) and DEC r (R182): H from the low nibble before, Z from the result, C unchanged. INC (HL) (R181) and DEC (HL)
(R183): one read, one write, then the flags; a read or a write that faults leaves the flags. -/
def Obligations.IncrementDecrement : Prop :=
  (∀ (p : Config.StopLen) (d : Reg8) (s : State),
      encode p (Form.instr (.incR d)) = [0b00#2 ++ d.code ++ 0b100#3] ∧
      encode p (Form.instr (.decR d)) = [0b00#2 ++ d.code ++ 0b101#3] ∧
      exec (Form.instr (.incR d)) s = .next { (s.setR8 d (s.r8 d + 1)).setFlags
        { z := decide (s.r8 d = 0xFF), n := false, h := decide ((s.r8 d).toNat % 16 = 15), c := s.flags.c } with
        cost := 4 } ∧
      exec (Form.instr (.decR d)) s = .next { (s.setR8 d (s.r8 d - 1)).setFlags
        { z := decide (s.r8 d = 0x01), n := true, h := decide ((s.r8 d).toNat % 16 = 0), c := s.flags.c } with
        cost := 4 }) ∧
  (∀ p : Config.StopLen, encode p (Form.instr .incM) = [0x34] ∧ encode p (Form.instr .decM) = [0x35]) ∧
  (∀ (s t : State) (v : Byte), s.Reads s.hl v t → s.Writable s.hl (v + 1) →
    ∃ u, memWrite s.hl (v + 1) t = .ok u ∧ exec (Form.instr .incM) s = .next { u.setFlags
      { z := decide (v = 0xFF), n := false, h := decide (v.toNat % 16 = 15), c := s.flags.c } with cost := 12 }) ∧
  (∀ (s t : State) (v : Byte), s.Reads s.hl v t → s.Writable s.hl (v - 1) →
    ∃ u, memWrite s.hl (v - 1) t = .ok u ∧ exec (Form.instr .decM) s = .next { u.setFlags
      { z := decide (v = 0x01), n := true, h := decide (v.toNat % 16 = 0), c := s.flags.c } with cost := 12 }) ∧
  (∀ (s t : State) (v : Byte) (f : Fault), s.Reads s.hl v t →
    (memWrite s.hl (v + 1) t = .error f → exec (Form.instr .incM) s = .fault f ∧ f.final.flags = s.flags) ∧
    (memWrite s.hl (v - 1) t = .error f → exec (Form.instr .decM) s = .fault f ∧ f.final.flags = s.flags)) ∧
  (∀ (s : State) (off : Nat), busView s s.hl = .outOfRange off →
    exec (Form.instr .incM) s = faulted (.cartridgeOutOfRange off) s ∧
    exec (Form.instr .decM) s = faulted (.cartridgeOutOfRange off) s)

/-- DAA (R184): the accumulator and C of the standard algorithm carried out over the integers, Z from the result, H clear,
N unchanged. CPL (R185), SCF (R186) and CCF (R187). -/
def Obligations.AccumulatorOperations : Prop :=
  (∀ (p : Config.StopLen) (s : State), encode p (Form.instr .daa) = [0x27] ∧
      exec (Form.instr .daa) s = .next { (s.setR8 .A (decimalAdjust s.regs.a s.flags).1).setFlags
        { z := decide ((decimalAdjust s.regs.a s.flags).1 = 0), n := s.flags.n, h := false,
          c := (decimalAdjust s.regs.a s.flags).2 } with cost := 4 }) ∧
  ∀ (p : Config.StopLen) (s : State),
    encode p (Form.instr .cpl) = [0x2F] ∧ encode p (Form.instr .scf) = [0x37] ∧ encode p (Form.instr .ccf) = [0x3F] ∧
    exec (Form.instr .cpl) s = .next { (s.setR8 .A (~~~s.regs.a)).setFlags
      { s.flags with n := true, h := true } with cost := 4 } ∧
    exec (Form.instr .scf) s = .next { s.setFlags { z := s.flags.z, n := false, h := false, c := true } with cost := 4 } ∧
    exec (Form.instr .ccf) s = .next { s.setFlags { z := s.flags.z, n := false, h := false, c := !s.flags.c } with
      cost := 4 }

/-- Decimal arithmetic: ADC or SBC of two two-digit decimal bytes, then DAA, leaves the decimal sum or difference mod 100 and
the decimal carry or borrow. A consequence of R171, R173, R175 and R184. -/
def Obligations.DecimalArithmetic : Prop :=
  ∀ (s : State) (x y : Nat), x < 100 → y < 100 → s.regs.a = decimalByte x → s.regs.b = decimalByte y →
    (∃ t u, exec .adc_A_B s = .next t ∧ exec .daa t = .next u ∧
      u.regs.a = decimalByte ((x + y + flagNat s.flags.c) % 100) ∧ u.flags.c = decide (100 ≤ x + y + flagNat s.flags.c)) ∧
    (∃ t u, exec .sbc_A_B s = .next t ∧ exec .daa t = .next u ∧
      u.regs.a = decimalByte ((x + 200 - y - flagNat s.flags.c) % 100) ∧
      u.flags.c = decide (x < y + flagNat s.flags.c))

/-! ## 16-bit arithmetic -/

/-- ADD HL,rr (R210): the sum mod 2^16, H the carry out of bit 11, C the carry out of bit 15, Z unchanged, N by P_ADD16_N.
INC rr (R213) and DEC rr (R214): the pair or SP moved by one mod 2^16, and no flag written. ADD SP,e8 (R211) and LD HL,SP+e8
(R212), for every encodable offset: the sum mod 2^16; H and C from the unsigned addition of the offset byte to the low byte
of SP; Z and N clear. -/
def Obligations.SixteenBitArithmetic : Prop :=
  (∀ (p : Config.StopLen) (rr : Reg16) (s : State),
      encode p (Form.instr (.addHL rr)) = [0b00#2 ++ rr.code ++ 0b1001#4] ∧
      exec (Form.instr (.addHL rr)) s = .next { (s.setHL (s.hl + s.r16 rr)).setFlags
        { z := s.flags.z
          n := match s.params.add16N with
            | .unchanged => s.flags.n
            | .cleared => false
          h := decide (s.hl.toNat % 4096 + (s.r16 rr).toNat % 4096 ≥ 4096)
          c := decide (s.hl.toNat + (s.r16 rr).toNat ≥ 65536) } with cost := 8 }) ∧
  (∀ (p : Config.StopLen) (rr : Reg16) (s : State),
      encode p (Form.instr (.incRr rr)) = [0b00#2 ++ rr.code ++ 0b0011#4] ∧
      encode p (Form.instr (.decRr rr)) = [0b00#2 ++ rr.code ++ 0b1011#4] ∧
      exec (Form.instr (.incRr rr)) s = .next { s.setR16 rr (s.r16 rr + 1) with cost := 8 } ∧
      exec (Form.instr (.decRr rr)) s = .next { s.setR16 rr (s.r16 rr - 1) with cost := 8 }) ∧
  ∀ (p : Config.StopLen) (e : Int) (s : State), -128 ≤ e → e ≤ 127 →
    encode p (Form.instr (.addSPe e)) = [0xE8, BitVec.ofInt 8 e] ∧
    encode p (Form.instr (.ldHLSPe e)) = [0xF8, BitVec.ofInt 8 e] ∧
    ∃ f : Flags, f.z = false ∧ f.n = false ∧
      f.h = decide (s.sp.toNat % 16 + (e % 16).toNat > 15) ∧ f.c = decide (s.sp.toNat % 256 + (e % 256).toNat > 255) ∧
      exec (Form.instr (.addSPe e)) s = .next { { s with sp := BitVec.ofInt 16 (s.sp.toNat + e) }.setFlags f with
        cost := 16 } ∧
      exec (Form.instr (.ldHLSPe e)) s = .next { (s.setHL (BitVec.ofInt 16 (s.sp.toNat + e))).setFlags f with cost := 12 }

/-! ## Rotates, shifts and bits -/

/-- RLCA, RRCA, RLA and RRA (R230 to R233), bit by bit: each bit of A moves one place, the carry out is the bit that leaves,
and Z, N and H are cleared whatever the result. -/
def Obligations.AccumulatorRotates : Prop :=
  (∀ p : Config.StopLen, encode p .rlca = [0x07] ∧ encode p .rrca = [0x0F] ∧ encode p .rla = [0x17] ∧
    encode p .rra = [0x1F]) ∧
  ∀ s : State,
    (∃ v, exec .rlca s = .next { (s.setR8 .A v).setFlags ⟨false, false, false, bit s.regs.a 7⟩ with cost := 4 } ∧
      bit v 0 = bit s.regs.a 7 ∧ ∀ k < 7, bit v (k + 1) = bit s.regs.a k) ∧
    (∃ v, exec .rrca s = .next { (s.setR8 .A v).setFlags ⟨false, false, false, bit s.regs.a 0⟩ with cost := 4 } ∧
      bit v 7 = bit s.regs.a 0 ∧ ∀ k < 7, bit v k = bit s.regs.a (k + 1)) ∧
    (∃ v, exec .rla s = .next { (s.setR8 .A v).setFlags ⟨false, false, false, bit s.regs.a 7⟩ with cost := 4 } ∧
      bit v 0 = s.flags.c ∧ ∀ k < 7, bit v (k + 1) = bit s.regs.a k) ∧
    (∃ v, exec .rra s = .next { (s.setR8 .A v).setFlags ⟨false, false, false, bit s.regs.a 0⟩ with cost := 4 } ∧
      bit v 7 = s.flags.c ∧ ∀ k < 7, bit v k = bit s.regs.a (k + 1))

/-- The prefixed rotates and shifts (R234 to R242) on a register or on the byte at HL: Get, Put, then Z from the result, N and
H clear, C the bit carried out. The last clause says bit by bit what each leaves and carries out. -/
def Obligations.PrefixedRotates : Prop :=
  (∀ (p : Config.StopLen) (o : RotOp) (x : Operand8),
    encode p (Form.instr (.rot o x)) = [0xCB, 0b00#2 ++ o.code ++ x.code]) ∧
  (∀ (s : State) (o : RotOp) (r : Reg8),
    exec (Form.instr (.rot o (.reg r))) s = .next { (s.setR8 r (rotate o (s.r8 r) s.flags.c).1).setFlags
      { z := decide ((rotate o (s.r8 r) s.flags.c).1 = 0), n := false, h := false,
        c := (rotate o (s.r8 r) s.flags.c).2 } with cost := 8 }) ∧
  (∀ (s t : State) (o : RotOp) (v : Byte), s.Reads s.hl v t → s.Writable s.hl (rotate o v s.flags.c).1 →
    ∃ u, memWrite s.hl (rotate o v s.flags.c).1 t = .ok u ∧
      exec (Form.instr (.rot o .mHL)) s = .next { u.setFlags
        { z := decide ((rotate o v s.flags.c).1 = 0), n := false, h := false, c := (rotate o v s.flags.c).2 } with
        cost := 16 }) ∧
  (∀ (s t : State) (o : RotOp) (v : Byte) (f : Fault), s.Reads s.hl v t →
    memWrite s.hl (rotate o v s.flags.c).1 t = .error f → exec (Form.instr (.rot o .mHL)) s = .fault f) ∧
  (∀ (s : State) (o : RotOp) (off : Nat), busView s s.hl = .outOfRange off →
    exec (Form.instr (.rot o .mHL)) s = faulted (.cartridgeOutOfRange off) s) ∧
  ∀ (v : Byte) (c : Bool),
    (∀ k < 7, bit (rotate .rlc v c).1 (k + 1) = bit v k ∧ bit (rotate .rl v c).1 (k + 1) = bit v k ∧
      bit (rotate .sla v c).1 (k + 1) = bit v k ∧ bit (rotate .rrc v c).1 k = bit v (k + 1) ∧
      bit (rotate .rr v c).1 k = bit v (k + 1) ∧ bit (rotate .sra v c).1 k = bit v (k + 1) ∧
      bit (rotate .srl v c).1 k = bit v (k + 1)) ∧
    (∀ k < 8, bit (rotate .swap v c).1 k = bit v ((k + 4) % 8)) ∧
    bit (rotate .rlc v c).1 0 = bit v 7 ∧ bit (rotate .rl v c).1 0 = c ∧ bit (rotate .sla v c).1 0 = false ∧
    bit (rotate .rrc v c).1 7 = bit v 0 ∧ bit (rotate .rr v c).1 7 = c ∧ bit (rotate .sra v c).1 7 = bit v 7 ∧
    bit (rotate .srl v c).1 7 = false ∧
    (rotate .rlc v c).2 = bit v 7 ∧ (rotate .rl v c).2 = bit v 7 ∧ (rotate .sla v c).2 = bit v 7 ∧
    (rotate .rrc v c).2 = bit v 0 ∧ (rotate .rr v c).2 = bit v 0 ∧ (rotate .sra v c).2 = bit v 0 ∧
    (rotate .srl v c).2 = bit v 0 ∧ (rotate .swap v c).2 = false

/-- BIT k,s (R243): Z the negation of the tested bit, N clear, H set, C untouched, and nothing written back. RES k,s (R244)
and SET k,s (R245): one bit of the operand changed, the others and every flag as they were; the byte is always written
back. A fault of an access is the instruction's. -/
def Obligations.BitOperations : Prop :=
  (∀ (p : Config.StopLen) (k : BitNo) (x : Operand8),
    encode p (Form.instr (.bit k x)) = [0xCB, 0b01#2 ++ k.code ++ x.code] ∧ k.code.toNat = bitNumber k) ∧
  (∀ (s t : State) (k : BitNo) (x : Operand8) (v : Byte), s.OperandReads x v t →
    exec (Form.instr (.bit k x)) s = .next { t.setFlags
      { z := !bit v (bitNumber k), n := false, h := true, c := s.flags.c } with cost := operandCost x 8 12 }) ∧
  (∀ (p : Config.StopLen) (k : BitNo) (x : Operand8),
    encode p (Form.instr (.res k x)) = [0xCB, 0b10#2 ++ k.code ++ x.code] ∧
    encode p (Form.instr (.set k x)) = [0xCB, 0b11#2 ++ k.code ++ x.code] ∧ k.code.toNat = bitNumber k) ∧
  (∀ (v : Byte) (k : BitNo), ∀ j < 8,
    bit (clearBit v (bitNumber k)) j = (bit v j && decide (j ≠ bitNumber k)) ∧
    bit (setBit v (bitNumber k)) j = (bit v j || decide (j = bitNumber k))) ∧
  (∀ (s : State) (k : BitNo) (r : Reg8),
    exec (Form.instr (.res k (.reg r))) s = .next { s.setR8 r (clearBit (s.r8 r) (bitNumber k)) with cost := 8 } ∧
    exec (Form.instr (.set k (.reg r))) s = .next { s.setR8 r (setBit (s.r8 r) (bitNumber k)) with cost := 8 }) ∧
  (∀ (s t : State) (k : BitNo) (v : Byte), s.Reads s.hl v t → s.Writable s.hl (clearBit v (bitNumber k)) →
    ∃ u, memWrite s.hl (clearBit v (bitNumber k)) t = .ok u ∧
      exec (Form.instr (.res k .mHL)) s = .next { u with cost := 16 }) ∧
  (∀ (s t : State) (k : BitNo) (v : Byte), s.Reads s.hl v t → s.Writable s.hl (setBit v (bitNumber k)) →
    ∃ u, memWrite s.hl (setBit v (bitNumber k)) t = .ok u ∧
      exec (Form.instr (.set k .mHL)) s = .next { u with cost := 16 }) ∧
  (∀ (s t : State) (k : BitNo) (v : Byte) (f : Fault), s.Reads s.hl v t →
    (memWrite s.hl (clearBit v (bitNumber k)) t = .error f → exec (Form.instr (.res k .mHL)) s = .fault f) ∧
    (memWrite s.hl (setBit v (bitNumber k)) t = .error f → exec (Form.instr (.set k .mHL)) s = .fault f)) ∧
  (∀ (s : State) (k : BitNo) (off : Nat), busView s s.hl = .outOfRange off →
    exec (Form.instr (.bit k .mHL)) s = faulted (.cartridgeOutOfRange off) s ∧
    exec (Form.instr (.res k .mHL)) s = faulted (.cartridgeOutOfRange off) s ∧
    exec (Form.instr (.set k .mHL)) s = faulted (.cartridgeOutOfRange off) s)

/-! ## Control transfer -/

/-- JP a16, JP cc,a16, JP HL, JR e8 and JR cc,e8 (R271 to R276): the target, and the cost taken and not taken. PC is the
address after the instruction. -/
def Obligations.Jumps : Prop :=
  ∀ (p : Config.StopLen) (s : State) (c : Cond) (w : Word) (e : Int),
    encode p (Form.instr (.jp w)) = [0xC3, lo w, hi w] ∧
    encode p (Form.instr (.jpCC c w)) = [0b110#3 ++ c.code ++ 0b010#3, lo w, hi w] ∧
    encode p (Form.instr .jpHL) = [0xE9] ∧ encode p (Form.instr (.jr e)) = [0x18, BitVec.ofInt 8 e] ∧
    encode p (Form.instr (.jrCC c e)) = [0b001#3 ++ c.code ++ 0b000#3, BitVec.ofInt 8 e] ∧
    exec (Form.instr (.jp w)) s = .next { s with pc := w, cost := 16 } ∧
    exec (Form.instr .jpHL) s = .next { s with pc := s.hl, cost := 4 } ∧
    exec (Form.instr (.jr e)) s = .next { s with pc := BitVec.ofInt 16 (s.pc.toNat + e), cost := 12 } ∧
    (condHolds c s.flags = true →
      exec (Form.instr (.jpCC c w)) s = .next { s with pc := w, cost := 16 } ∧
      exec (Form.instr (.jrCC c e)) s = .next { s with pc := BitVec.ofInt 16 (s.pc.toNat + e), cost := 12 }) ∧
    (condHolds c s.flags = false →
      exec (Form.instr (.jpCC c w)) s = .next { s with cost := 12 } ∧
      exec (Form.instr (.jrCC c e)) s = .next { s with cost := 8 })

/-- CALL a16, CALL cc,a16 and RST t (R277, R278, R281): the address after the instruction pushed, then the jump; where a push
byte faults, nothing after it happens. -/
def Obligations.Calls : Prop :=
  (∀ (p : Config.StopLen) (c : Cond) (w : Word) (r : RstVector),
    encode p (Form.instr (.call w)) = [0xCD, lo w, hi w] ∧
    encode p (Form.instr (.callCC c w)) = [0b110#3 ++ c.code ++ 0b100#3, lo w, hi w] ∧
    encode p (Form.instr (.rst r)) = [0b11#2 ++ r.code ++ 0b111#3] ∧ (rstAddress r).toNat = r.code.toNat * 8) ∧
  (∀ (s : State) (c : Cond) (w : Word) (r : RstVector), s.PushWritable s.pc → ∃ t, push16 s.pc s = .ok t ∧
    exec (Form.instr (.call w)) s = .next { t with pc := w, cost := 24 } ∧
    exec (Form.instr (.rst r)) s = .next { t with pc := rstAddress r, cost := 16 } ∧
    (condHolds c s.flags = true → exec (Form.instr (.callCC c w)) s = .next { t with pc := w, cost := 24 })) ∧
  (∀ (s : State) (c : Cond) (w : Word), condHolds c s.flags = false →
    exec (Form.instr (.callCC c w)) s = .next { s with cost := 12 }) ∧
  (∀ (s : State) (c : Cond) (w : Word) (r : RstVector) (f : Fault), push16 s.pc s = .error f →
    exec (Form.instr (.call w)) s = .fault f ∧ exec (Form.instr (.rst r)) s = .fault f ∧
    (condHolds c s.flags = true → exec (Form.instr (.callCC c w)) s = .fault f) ∧ f.final.pc = s.pc)

/-- RET, RETI and RET cc (R279, R280, R282): PC popped; RETI sets IME at once; RET cc not taken changes nothing. -/
def Obligations.Returns : Prop :=
  (∀ (p : Config.StopLen) (c : Cond), encode p (Form.instr .ret) = [0xC9] ∧ encode p (Form.instr .reti) = [0xD9] ∧
    encode p (Form.instr (.retCC c)) = [0b110#3 ++ c.code ++ 0b000#3]) ∧
  (∀ (s t : State) (w : Word) (c : Cond), s.ReadsWord s.sp w t →
    exec (Form.instr .ret) s = .next { t with sp := s.sp + 2, pc := w, cost := 16 } ∧
    exec (Form.instr .reti) s = .next { t with sp := s.sp + 2, pc := w, ime := true, cost := 16 } ∧
    (condHolds c s.flags = true →
      exec (Form.instr (.retCC c)) s = .next { t with sp := s.sp + 2, pc := w, cost := 20 })) ∧
  (∀ (s : State) (c : Cond), condHolds c s.flags = false →
    exec (Form.instr (.retCC c)) s = .next { s with cost := 8 }) ∧
  (∀ (s : State) (c : Cond) (f : Fault), pop16 s = .error f →
    exec (Form.instr .ret) s = .fault f ∧ exec (Form.instr .reti) s = .fault f ∧
    (condHolds c s.flags = true → exec (Form.instr (.retCC c)) s = .fault f))

/-! ## System instructions and the step -/

/-- NOP (R300), HALT (R301), STOP (R302), DI (R303) and EI (R304), at every value of P_STOP_LEN and P_EI_DELAY. Two clauses are
the model's: that the byte STOP ignores is encoded as 0x00 (log entry 14), and that at P_EI_DELAY = 1 the corner case of R304
(EI with IME already true has no effect) stands over its pseudocode (log entry 16). -/
def Obligations.SystemInstructions : Prop :=
  (∀ p : Config.StopLen, encode p (Form.instr .nop) = [0x00] ∧ encode p (Form.instr .halt) = [0x76] ∧
    encode p (Form.instr .di) = [0xF3] ∧ encode p (Form.instr .ei) = [0xFB]) ∧
  encode .one (Form.instr .stop) = [0x10] ∧ encode .two (Form.instr .stop) = [0x10, 0x00] ∧
  ∀ s : State,
    exec (Form.instr .nop) s = .next { s with cost := 4 } ∧
    exec (Form.instr .halt) s = .next { s with halted := true, cost := 4 } ∧
    exec (Form.instr .stop) s = .next { s with cost := 4 } ∧
    (s.params.eiDelay = .none →
      exec (Form.instr .di) s = .next { s with ime := false, cost := 4 } ∧
      exec (Form.instr .ei) s = .next { s with ime := true, cost := 4 }) ∧
    (s.params.eiDelay = .one →
      exec (Form.instr .di) s = .next { s with ime := false, eiPending := false, cost := 4 } ∧
      (s.ime = false → exec (Form.instr .ei) s = .next { s with eiPending := true, cost := 4 }) ∧
      (s.ime = true → exec (Form.instr .ei) s = .next { s with cost := 4 }))

/-- Executing an illegal opcode stops the machine with Fault(IllegalOpcode), the opcode and its address recorded, and nothing
else changed: the step that fetches one at PC faults with PC past it, and neither device advances (R306). -/
def Obligations.IllegalOpcodesFault : Prop :=
  ∀ (p : Config.StopLen) (op : IllegalOp) (s : State),
    encode p (Form.instr (.illegal op)) = [op.byte] ∧
    op.byte ∈ ([0xD3, 0xDB, 0xDD, 0xE3, 0xE4, 0xEB, 0xEC, 0xED, 0xF4, 0xFC, 0xFD] : List Byte) ∧
    exec (Form.instr (.illegal op)) s =
      .fault (.illegalOpcode op.byte (s.pc - 1) { s with fault := some (.illegalOpcode op.byte (s.pc - 1)), cost := 0 }) ∧
    ∀ t : State, s.fault = none → s.halted = false → (s.ime = true → s.load Port.IF &&& s.load Port.IE = 0) →
      s.Reads s.pc op.byte t → step s = .fault (.illegalOpcode op.byte s.pc
        { t with pc := s.pc + 1, fault := some (.illegalOpcode op.byte s.pc), cost := 0 })

/-- No instruction is refused, and no step is: the step relation is total on every state that has not faulted (R454). The cost
of a completed step is a multiple of 4 between 4 and 24 (R328). -/
def Obligations.StepTotalityAndCost : Prop :=
  (∀ (i : Instr) (s : State) (r : Refusal), exec i s ≠ .refused r) ∧ (∀ (s : State) (r : Refusal), step s ≠ .refused r) ∧
  ∀ s t : State, step s = .next t → t.cost ∈ [4, 8, 12, 16, 20, 24]

/-- Where no interrupt is due and the core is not halted, a step fetches the bytes at PC, executes the instruction they decode
to with PC past them, lets an armed EI take effect (P_EI_DELAY = 1 only), and then advances the counter and the display
controller by its cost (R320, R321, R324, R327). Where a byte of the instruction lies outside the cartridge, the first one or one
that its first byte makes part of it, the step faults at that fetch with PC past the bytes before it and nothing else changed
but the draw count, so neither device has advanced (R92, R99, R330). -/
def Obligations.StepRunsDecodedInstruction : Prop :=
  ∀ s : State, s.fault = none → s.halted = false → (s.ime = true → s.load Port.IF &&& s.load Port.IE = 0) →
    (∀ (t : State) (bytes : List Byte) (i : Instr), s.Fetches bytes t → decode s.params.stopLen bytes = .ok (i, []) →
      step s = match exec i t with
        | .next u =>
          .next (displayAdvance u.cost (timerAdvance u.cost
            (if s.params.eiDelay = .one ∧ s.eiPending = true ∧ u.eiPending = true
              then { u with ime := true, eiPending := false } else u)))
        | .fault f => .fault f
        | .refused r => .refused r) ∧
    ∀ (t : State) (bytes : List Byte) (off : Nat), s.Fetches bytes t →
      (∀ op ∈ bytes.head?, bytes.length < instrLength s.params.stopLen op) → busView t t.pc = .outOfRange off →
      step s = faulted (.cartridgeOutOfRange off) t ∧
      t = { s with pc := s.pc + BitVec.ofNat 16 bytes.length, draws := t.draws }

/-- Interrupt service (R321, R322, R331, R334): with IME set, the lowest-numbered source that is pending and enabled is taken:
its IF bit cleared, IME cleared, PC pushed, PC at 0x40 + 8i, the halted state cleared, at the cost P_ISR_CYCLES. A push byte
that faults stops the step. In a state with an EI pending while IME is set, which no run reaches, the service leaves it pending:
the model's choice (log entry 25). -/
def Obligations.InterruptService : Prop :=
  ∀ (s u : State) (i : InterruptSource), s.fault = none → s.ime = true →
    bit (s.load Port.IF) i.index = true → bit (s.load Port.IE) i.index = true →
    (∀ j < i.index, (bit (s.load Port.IF) j && bit (s.load Port.IE) j) = false) →
    u = { s.store Port.IF (clearBit (s.load Port.IF) i.index) with ime := false } →
    i.vector.toNat = 0x40 + 8 * i.index ∧
    (s.PushWritable s.pc → ∃ t, push16 s.pc u = .ok t ∧
      ∀ c, c = (match s.params.isrCycles with | .c12 => 12 | .c20 => 20) →
        step s = .next (displayAdvance c (timerAdvance c { t with pc := i.vector, halted := false, cost := c }))) ∧
    ∀ f, push16 s.pc u = .error f → step s = .fault f

/-- A halted core with IME set and nothing due idles; with IME clear it wakes without service when the byte P_HALT_WAKE names
has one of bits 4 to 0 set, and idles when that byte is zero. Each costs 4 and the devices advance (R323, R325). A wake or an
interrupt check that bits 7 to 5 alone decide stops with Fault(UnspecifiedInterruptState), which records IF and IE (R321,
R323, R330). -/
def Obligations.HaltWakeAndIdle : Prop :=
  (∀ (s : State) (w : Byte), s.fault = none → s.halted = true →
      w = (match s.params.haltWake with
        | .pending => s.load Port.IF
        | .pendingAndEnabled => s.load Port.IF &&& s.load Port.IE) →
      (s.ime = true → s.load Port.IF &&& s.load Port.IE = 0 →
        step s = .next (displayAdvance 4 (timerAdvance 4 { s with cost := 4 }))) ∧
      (s.ime = false → w &&& 0x1F ≠ 0 →
        step s = .next (displayAdvance 4 (timerAdvance 4 { s with halted := false, cost := 4 }))) ∧
      (s.ime = false → w = 0 → step s = .next (displayAdvance 4 (timerAdvance 4 { s with cost := 4 }))) ∧
      (s.ime = false → w &&& 0x1F = 0 → w ≠ 0 →
        step s = faulted (.unspecifiedInterruptState (s.load Port.IF) (s.load Port.IE)) s)) ∧
  (∀ s : State, s.fault = none → s.ime = true → s.load Port.IF &&& s.load Port.IE ≠ 0 →
      s.load Port.IF &&& s.load Port.IE &&& 0x1F = 0 →
      step s = faulted (.unspecifiedInterruptState (s.load Port.IF) (s.load Port.IE)) s)

/-- A fault is kept forever: a step that faults leaves the fault in the state and advances neither device (10_state.md R36;
60_exceptions.md R320, R330). Two clauses are the model's: a faulted state, which the spec gives no step, answers its fault
again (log entry 12), and the cost of the state a fault leaves is 0 (log entry 11). -/
def Obligations.FaultsStop : Prop :=
  (∀ (s : State) (k : FaultKind), s.fault = some k → step s = .fault (k.toFault s)) ∧
  ∀ (s : State) (f : Fault), s.fault = none → step s = .fault f →
    (∃ k, f.final.fault = some k ∧ step f.final = .fault f) ∧ f.final.cost = 0 ∧ f.final.display = s.display ∧
    f.final.frame = s.frame ∧ f.final.timer.timaAcc = s.timer.timaAcc ∧
    (s.params.divResetAcc = false → f.final.timer = s.timer) ∧ f.final.load Port.LY = s.load Port.LY

/-- Only EI and RETI set IME, and at P_EI_DELAY = 1 the instruction after an EI (10_state.md R27; R304, R333): a step from a
state with IME clear to one with IME set executed one of them, or an earlier EI took effect. -/
def Obligations.OnlyEiAndRetiEnable : Prop :=
  (∀ (i : Instr) (s t : State), exec i s = .next t → s.ime = false → t.ime = true →
    i = .reti ∨ i = .ei ∧ s.params.eiDelay = .none) ∧
  (∀ s t : State, step s = .next t → s.ime = false → t.ime = true →
    (∃ u, fetchInstr s = .ok (.reti, u)) ∨ (s.params.eiDelay = .none ∧ ∃ u, fetchInstr s = .ok (.ei, u)) ∨
    (s.params.eiDelay = .one ∧ s.eiPending = true))

/-- What no step changes: the cartridge, the bootstrap image, the parameters, the buttons; what a step changes one way only:
the booting latch is cleared, never set (R74), and the serial log grows, never shrinks (R345). -/
def Obligations.StepKeepsImages : Prop :=
  ∀ s t : State, step s = .next t →
    t.cart = s.cart ∧ t.bootRom = s.bootRom ∧ t.params = s.params ∧ t.buttons = s.buttons ∧
    (t.booting = true → s.booting = true) ∧ s.serialLog <+: t.serialLog

/-- An instruction that stores, and only one that stores, changes bytes of memory, and only those at the addresses it computes
before it stores: every byte outside them reads as before. It covers every instruction, those that store nothing too. -/
def Obligations.StoreFrame : Prop :=
  ∀ (f : Form) (s t : State), exec f.instr s = .next t →
    ∀ st k, (∀ a ∈ Form.storeAddresses f s, storesTo s a st k = false) → t.byteAt st k = s.byteAt st k

/-- THE INVARIANT: every completed step of a machine that meets the invariant of Safety.lean leaves one that meets it. That no
EI is pending while IME is set rests on the corner case of R304 at P_EI_DELAY = 1 (log entry 16). -/
def Obligations.StepKeepsInvariant : Prop := ∀ s t : State, s.Inv → step s = .next t → t.Inv

/-- Every machine that reset builds from images and unspecified values in canonical form meets the invariant, at every
parameter, with and without a bootstrap image; so does State.reset, which is one of them (R420 to R427). -/
def Obligations.ResetMeetsInvariant : Prop :=
  State.reset.Inv ∧
  ∀ (q : Config.Params) (rom : Memory) (size : Nat) (boot : Option Memory) (init : Init) (s : State),
    rom.wf .cartRom → (∀ image ∈ boot, image.wf .bootRom) → init.ram.wf .bus → init.cartRam.wf .cartRam →
    resetWith q rom size boot init = some s → s.Inv

/-- What reset leaves without a bootstrap image: the registers of R422, the I/O bytes of R423, the device state of R424 and
the latch of R426. -/
def Obligations.ResetState : Prop :=
  let s := State.reset
  s.regs.a = 0x01 ∧ flagByte s.flags = 0xB0 ∧ s.r16 .BC = 0x0013 ∧ s.r16 .DE = 0x00D8 ∧ s.hl = 0x014D ∧ s.sp = 0xFFFE ∧
  s.pc = 0x0100 ∧ s.ime = false ∧ s.halted = false ∧ s.eiPending = false ∧ s.fault = none ∧
  s.load 0xFF40 = 0x91 ∧ s.load 0xFF47 = 0xFC ∧ s.load 0xFF48 = 0xFF ∧ s.load 0xFF49 = 0xFF ∧ s.load 0xFFFF = 0x00 ∧
  (∀ k, 0xFF00 ≤ k → k ≤ 0xFF7F → k ∉ [0xFF40, 0xFF47, 0xFF48, 0xFF49] → s.load k = 0x00) ∧
  s.display = ⟨.hBlank, 0, false, false, false, false⟩ ∧ (∀ (y : Fin 144) (x : Fin 160), s.frame[y][x] = .g255) ∧
  s.vramGate = true ∧ s.oamGate = true ∧ s.timer = ⟨0, 0⟩ ∧ s.bank = ⟨1, 0, false, 0⟩ ∧ s.serialLog = [] ∧ s.booting = false

/-- Construction and reset from every argument. The kind and the presence of external RAM come from the type code and its size
from the RAM-size code, by the tables of R80 to R82; codes the tables have, in an image long enough to hold them, give a machine,
and any other type code, or RAM-size code where it is consulted, gives none (R83). Without a bootstrap image the machine is
State.reset but for what the arguments decide; with one, its registers come from P_INIT, PC is 0x0000, the latch is set and
every I/O byte is 0x00 (R421, R423, R426). The buttons, the last cost and the draw count, to which the spec gives no reset
value, are not spoken of (log entries 8, 11 and 18). -/
def Obligations.ResetFromArguments : Prop :=
  ∀ table : List (Byte × BankKind × Bool),
    table = [(0x00, .none, false), (0x01, .type1, false), (0x02, .type1, true), (0x03, .type1, true),
        (0x05, .type2, true), (0x06, .type2, true), (0x08, .none, true), (0x09, .none, true)] ++
      [(0x0F, .type3, false), (0x11, .type3, false), (0x10, .type3, true), (0x12, .type3, true), (0x13, .type3, true),
        (0x15, .type4, false), (0x16, .type4, true), (0x17, .type4, true)] ++
      [(0x19, .type5, false), (0x1C, .type5, false), (0x1A, .type5, true), (0x1B, .type5, true), (0x1D, .type5, true),
        (0x1E, .type5, true)] →
    ∀ (q : Config.Params) (rom : Memory) (size : Nat) (boot : Memory) (init : Init) (typeCode sizeCode : Byte),
      typeCode = rom.read .cartRom 0x147 → sizeCode = rom.read .cartRom 0x149 →
      (∀ (kind : BankKind) (present : Bool) (ram : Option Nat), 0x149 < size → (typeCode, kind, present) ∈ table →
        (ram = if present = false then none else if kind = .type2 then some 512
          else if sizeCode = 0x01 then some 2048 else if sizeCode = 0x02 then some 8192 else some 32768) →
        (present = true → kind ≠ .type2 → sizeCode ∈ ([0x01, 0x02, 0x03] : List Byte)) →
        (∃ s, resetWith q rom size none init = some s ∧
          s = { State.reset with
            params := q, cart := { rom := rom, romSize := size, kind := kind, ramSize := ram },
            mem := s.mem, cartRam := s.cartRam, buttons := s.buttons, cost := s.cost, draws := s.draws } ∧
          (∀ k, 0xFF00 ≤ k → k ≤ 0xFF7F → s.load k = if k = 0xFF40 then 0x91 else if k = 0xFF47 then 0xFC
            else if k = 0xFF48 ∨ k = 0xFF49 then 0xFF else 0x00) ∧
          s.load 0xFFFF = 0x00 ∧ s.TakesRamFrom init) ∧
        (∃ s, resetWith q rom size (some boot) init = some s ∧
          s = { State.reset with
            params := q, cart := { rom := rom, romSize := size, kind := kind, ramSize := ram },
            regs := init.regs, flags := init.flags, sp := init.sp, pc := 0x0000, booting := true, bootRom := boot,
            mem := s.mem, cartRam := s.cartRam, buttons := s.buttons, cost := s.cost, draws := s.draws } ∧
          (∀ k, 0xFF00 ≤ k → k ≤ 0xFF7F → s.load k = 0x00) ∧ s.load 0xFFFF = 0x00 ∧ s.TakesRamFrom init)) ∧
      ((∀ (kind : BankKind) (present : Bool), (typeCode, kind, present) ∉ table) ∨
        (∃ kind, (typeCode, kind, true) ∈ table ∧ kind ≠ .type2 ∧ sizeCode ∉ ([0x01, 0x02, 0x03] : List Byte)) →
        resetWith q rom size none init = none ∧ resetWith q rom size (some boot) init = none)

/-! ## The periodic counter -/

/-- The divider (R341), for every cost: DIV moves by the number of whole 256-cycle periods accumulated, mod 256, the rest stays
in the accumulator, and nothing else changes. -/
def Obligations.DividerLaw : Prop :=
  ∀ (s : State) (cost : Nat),
    (divAdvance cost s).load Port.DIV = s.load Port.DIV + BitVec.ofNat 8 ((s.timer.divAcc + cost) / 256) ∧
    divAdvance cost s = { s with mem := (divAdvance cost s).mem,
                                 timer := { s.timer with divAcc := (s.timer.divAcc + cost) % 256 } } ∧
    timerAdvance cost s = timaAdvance cost (divAdvance cost s) ∧
    ∀ k, k ≠ Port.DIV → (divAdvance cost s).load k = s.load k

/-- TIMA (R342): nothing happens while TAC bit 2 is clear; else TIMA counts the whole periods accumulated. Below the overflow it
moves by their number and nothing is requested; from it on, it counts on from TMA, over and over, and the timer interrupt
is requested. -/
def Obligations.TimerLaw : Prop :=
  ∀ (s : State) (cost d n x m : Nat), x = (s.load Port.TIMA).toNat → m = (s.load Port.TMA).toNat →
    d = (match (s.load Port.TAC).toNat % 4 with | 0 => 1024 | 1 => 16 | 2 => 64 | _ => 256) →
    n = (s.timer.timaAcc + cost) / d →
    (bit (s.load Port.TAC) 2 = false → timaAdvance cost s = s) ∧
    (bit (s.load Port.TAC) 2 = true →
      timaAdvance cost s = { s with mem := (timaAdvance cost s).mem,
                                    timer := { s.timer with timaAcc := (s.timer.timaAcc + cost) % d } } ∧
      (∀ k, k ≠ Port.TIMA → k ≠ Port.IF → (timaAdvance cost s).load k = s.load k) ∧
      (n < 256 - x → ((timaAdvance cost s).load Port.TIMA).toNat = x + n ∧
        (timaAdvance cost s).load Port.IF = s.load Port.IF) ∧
      (256 - x ≤ n → ((timaAdvance cost s).load Port.TIMA).toNat = m + (n - (256 - x)) % (256 - m) ∧
        (timaAdvance cost s).load Port.IF = s.load Port.IF ||| 0x04))

/-! ## The display controller -/

/-- With LCDC bit 7 clear, an advance freezes the display in H-blank at line 0 with both gates open and the STAT mode bits 0,
and requests and renders nothing (R351, R352). Nothing else changes: of storage only LY, STAT and IF. -/
def Obligations.DisabledDisplay : Prop :=
  ∀ (s : State) (cycles : Nat), bit (s.load Port.LCDC) 7 = false →
    (displayAdvance cycles s).display.mode = .hBlank ∧ (displayAdvance cycles s).display.modeClock = 0 ∧
    (displayAdvance cycles s).display.enabled = false ∧
    (displayAdvance cycles s).display.frameComplete = s.display.frameComplete ∧
    (displayAdvance cycles s).load Port.LY = 0 ∧
    (displayAdvance cycles s).load Port.STAT = s.load Port.STAT &&& 0xFC ∧
    (displayAdvance cycles s).vramGate = true ∧ (displayAdvance cycles s).oamGate = true ∧
    displayAdvance cycles s = { s with
      mem := (displayAdvance cycles s).mem, display := (displayAdvance cycles s).display,
      vramGate := (displayAdvance cycles s).vramGate, oamGate := (displayAdvance cycles s).oamGate } ∧
    (∀ k, k ∉ [Port.LY, Port.STAT, Port.IF] → (displayAdvance cycles s).load k = s.load k) ∧
    (s.params.ifRetract = .tracked → (displayAdvance cycles s).display.setVblank = false ∧
      (displayAdvance cycles s).display.setStat = false) ∧
    (s.params.ifRetract = .tracked → ∀ k < 8, bit ((displayAdvance cycles s).load Port.IF) k =
      (bit (s.load Port.IF) k && !(decide (k = 0) && s.display.setVblank) && !(decide (k = 1) && s.display.setStat))) ∧
    (s.params.ifRetract = .always → (displayAdvance cycles s).load Port.IF = s.load Port.IF &&& 0xFC)

/-- With LCDC bit 7 set, an advance leaves the display enabled, from Sprite-Search with a zero clock where it was disabled
(R353); the clock takes the cycles, and a mode whose threshold is reached gives way to the next, the threshold taken from the
clock (R354 to R358), LY counting as each mode says. -/
def Obligations.DisplayModes : Prop :=
  ∀ (s : State) (cycles clock : Nat) (m : Mode), bit (s.load Port.LCDC) 7 = true →
    m = (if s.display.enabled then s.display.mode else .spriteSearch) →
    clock = (if s.display.enabled then s.display.modeClock else 0) + cycles →
    (displayAdvance cycles s).display.enabled = true ∧
    (match m with
      | .spriteSearch =>
        (clock < 79 → (displayAdvance cycles s).display.mode = .spriteSearch ∧
          (displayAdvance cycles s).display.modeClock = clock) ∧
        (79 ≤ clock → (displayAdvance cycles s).display.mode = .pixelTransfer ∧
          (displayAdvance cycles s).display.modeClock = clock - 79) ∧
        (displayAdvance cycles s).load Port.LY = s.load Port.LY
      | .pixelTransfer =>
        (clock < 172 → (displayAdvance cycles s).display.mode = .pixelTransfer ∧
          (displayAdvance cycles s).display.modeClock = clock) ∧
        (172 ≤ clock → (displayAdvance cycles s).display.mode = .hBlank ∧
          (displayAdvance cycles s).display.modeClock = clock - 172) ∧
        (displayAdvance cycles s).load Port.LY = s.load Port.LY
      | .hBlank =>
        (clock < 205 → (displayAdvance cycles s).display.mode = .hBlank ∧
          (displayAdvance cycles s).display.modeClock = clock ∧
          (displayAdvance cycles s).load Port.LY = s.load Port.LY) ∧
        (205 ≤ clock → (displayAdvance cycles s).display.modeClock = clock - 205 ∧
          (displayAdvance cycles s).load Port.LY = s.load Port.LY + 1 ∧
          (displayAdvance cycles s).display.mode = if s.load Port.LY + 1 = 144 then .vBlank else .spriteSearch)
      | .vBlank =>
        (clock < 4560 → (displayAdvance cycles s).display.mode = .vBlank ∧
          (displayAdvance cycles s).display.modeClock = clock ∧
          ((displayAdvance cycles s).load Port.LY).toNat = 144 + min 9 (clock / 456)) ∧
        (4560 ≤ clock → (displayAdvance cycles s).display.mode = .spriteSearch ∧
          (displayAdvance cycles s).display.modeClock = clock - 4560 ∧ (displayAdvance cycles s).load Port.LY = 0))

/-- After an advance with LCDC bit 7 set: STAT holds the mode's code in bits 1-0 (R359) and LY = LYC in bit 2 (R360), its other
bits as they were; the gates are the mode's (R361); the frame-complete flag is set on entry to V-blank and otherwise as
it was (R357, R362). The advance changes nothing but the display controller's own state, the gates, the frame and, of storage,
LY, STAT and IF. -/
def Obligations.DisplayStatus : Prop :=
  ∀ (s t : State) (cycles : Nat), bit (s.load Port.LCDC) 7 = true → t = displayAdvance cycles s →
    t.load Port.STAT &&& 3 = (match t.display.mode with
      | .hBlank => 0 | .vBlank => 1 | .spriteSearch => 2 | .pixelTransfer => 3) ∧
    bit (t.load Port.STAT) 2 = decide (t.load Port.LY = t.load Port.LYC) ∧
    (∀ k, 3 ≤ k → bit (t.load Port.STAT) k = bit (s.load Port.STAT) k) ∧
    (t.oamGate = false ↔ t.display.mode = .spriteSearch ∨ t.display.mode = .pixelTransfer) ∧
    (t.vramGate = false ↔ t.display.mode = .pixelTransfer) ∧
    (t.display.frameComplete = true ↔ s.display.frameComplete = true ∨
      (s.display.enabled = true ∧ s.display.mode = .hBlank ∧ t.display.mode = .vBlank)) ∧
    t = { s with mem := t.mem, display := t.display, vramGate := t.vramGate, oamGate := t.oamGate, frame := t.frame } ∧
    (∀ k, k ∉ [Port.LY, Port.STAT, Port.IF] → t.load k = s.load k)

/-- The requests of an advance with LCDC bit 7 set (R351, R356 to R358, R360): IF bit 0 is set by this advance's entry to
V-blank; bit 1 by the entry to a mode that STAT enables or by LY = LYC (with STAT bit 6 under P_LYC_GATED). Of what IF held,
P_IF_RETRACT = "tracked" withdraws what the previous advance requested and "always" withdraws both bits, whoever set them; every
other bit stays. That under "always" an advance leaves the two request flags set once they are is the model's choice (log
entry 26). -/
def Obligations.DisplayRequests : Prop :=
  ∀ (s t : State) (cycles : Nat), bit (s.load Port.LCDC) 7 = true → t = displayAdvance cycles s →
    ∀ entersVblank entersHblank entersSearch lineMatch statRequest : Bool,
      entersVblank = decide (s.display.enabled = true ∧ s.display.mode = .hBlank ∧ t.display.mode = .vBlank) →
      entersHblank = decide (s.display.enabled = true ∧ s.display.mode = .pixelTransfer ∧ t.display.mode = .hBlank) →
      entersSearch = decide (s.display.enabled = true ∧ (s.display.mode = .hBlank ∨ s.display.mode = .vBlank) ∧
        t.display.mode = .spriteSearch) →
      lineMatch = (decide (t.load Port.LY = t.load Port.LYC) && (!s.params.lycGated || bit (s.load Port.STAT) 6)) →
      statRequest = ((entersVblank && bit (s.load Port.STAT) 4) || (entersHblank && bit (s.load Port.STAT) 3)
        || (entersSearch && bit (s.load Port.STAT) 5) || lineMatch) →
      (∀ k, 2 ≤ k → bit (t.load Port.IF) k = bit (s.load Port.IF) k) ∧
      (s.params.ifRetract = .tracked →
        bit (t.load Port.IF) 0 = (entersVblank || (bit (s.load Port.IF) 0 && !s.display.setVblank)) ∧
        bit (t.load Port.IF) 1 = (statRequest || (bit (s.load Port.IF) 1 && !s.display.setStat)) ∧
        t.display.setVblank = entersVblank ∧ t.display.setStat = statRequest) ∧
      (s.params.ifRetract = .always →
        bit (t.load Port.IF) 0 = entersVblank ∧ bit (t.load Port.IF) 1 = statRequest ∧
        t.display.setVblank = (entersVblank || s.display.setVblank) ∧
        t.display.setStat = (statRequest || s.display.setStat))

/-- A line is rendered exactly at the exit from Pixel-Transfer: that line of the frame holds the rendered columns, every other
line is as it was, and at any other advance the whole frame is (R356, R380, R398). -/
def Obligations.LineRendering : Prop :=
  ∀ (s : State) (cycles : Nat), bit (s.load Port.LCDC) 7 = true →
    (s.display.enabled = true → s.display.mode = .pixelTransfer → 172 ≤ s.display.modeClock + cycles →
      ∀ (y : Fin 144) (x : Fin 160), (displayAdvance cycles s).frame[y][x] =
        if y.val = (s.load Port.LY).toNat then columnGrey s y.val x.val else s.frame[y][x]) ∧
    (¬ (s.display.enabled = true ∧ s.display.mode = .pixelTransfer ∧ 172 ≤ s.display.modeClock + cycles) →
      (displayAdvance cycles s).frame = s.frame)

/-- The background and window passes (R381 to R386): white with index 0 where LCDC bit 0 is clear, else the tile map entry of
the scrolled position, its tile by the addressing mode, its two bit-planes and BGP; the window's column where it covers. -/
def Obligations.BackgroundAndWindow : Prop :=
  ∀ (s : State) (ly x : Nat),
    (windowCovers s ly x = true ↔ bit (s.load Port.LCDC) 5 = true ∧ (s.load Port.WY).toNat ≤ ly ∧
      (s.load Port.WX).toNat ≤ 166 ∧ (s.load Port.WX).toNat ≤ x + 7 ∧
      (s.params.winNeedsBg = true → bit (s.load Port.LCDC) 0 = true)) ∧
    (bit (s.load Port.LCDC) 0 = false → windowCovers s ly x = false → underPixel s ly x = (0, .g255)) ∧
    ∀ base v h : Nat,
      (windowCovers s ly x = true ∧ base = (if bit (s.load Port.LCDC) 6 then 0x9C00 else 0x9800) ∧
        v = ly - (s.load Port.WY).toNat ∧ h = x + 7 - (s.load Port.WX).toNat) ∨
      (windowCovers s ly x = false ∧ bit (s.load Port.LCDC) 0 = true ∧
        base = (if bit (s.load Port.LCDC) 3 then 0x9C00 else 0x9800) ∧
        v = (ly + (s.load Port.SCY).toNat) % 256 ∧ h = (x + (s.load Port.SCX).toNat) % 256) →
      ∃ (tile : Byte) (row : Nat) (ci : BitVec 2), tile = s.load (base + v / 8 * 32 + h / 8) ∧
        (row : Int) = (if bit (s.load Port.LCDC) 4 then 0x8000 + 16 * (tile.toNat : Int) else 0x9000 + 16 * tile.toInt)
          + 2 * (v % 8 : Nat) ∧
        ci.getLsbD 0 = bit (s.load row) (7 - h % 8) ∧ ci.getLsbD 1 = bit (s.load (row + 1)) (7 - h % 8) ∧
        (underPixel s ly x).1 = ci ∧
        [Grey.g255, .g170, .g85, .g0][((s.load Port.BGP).toNat / 4 ^ ci.toNat) % 4]? = some (underPixel s ly x).2

/-- Sprite selection (R387, R388): the sprites of a line are entries of the table whose extent meets it, at most ten, in order
of ascending x, equal x by ascending index, and an entry left out comes after all ten kept; LCDC bit 1 only matters under
P_OBJ_ENABLE. -/
def Obligations.SpriteSelection : Prop :=
  ∀ (s : State) (ly h : Nat), h = (if bit (s.load Port.LCDC) 2 then 16 else 8) →
    (s.params.objEnable = true → bit (s.load Port.LCDC) 1 = false → lineSprites s ly = []) ∧
    (s.params.objEnable = false ∨ bit (s.load Port.LCDC) 1 = true → ∃ kept : List Nat,
      lineSprites s ly = kept.map (fun k => ⟨(s.load (0xFE00 + 4 * k)).toNat, (s.load (0xFE01 + 4 * k)).toNat,
        (s.load (0xFE02 + 4 * k)).toNat, s.load (0xFE03 + 4 * k)⟩) ∧
      kept.length ≤ 10 ∧
      kept.Pairwise (fun j k => (s.load (0xFE01 + 4 * j)).toNat < (s.load (0xFE01 + 4 * k)).toNat ∨
        s.load (0xFE01 + 4 * j) = s.load (0xFE01 + 4 * k) ∧ j < k) ∧
      (∀ k ∈ kept, k < 40 ∧ ((s.load (0xFE00 + 4 * k)).toNat : Int) - 16 ≤ ly ∧
        (ly : Int) < (s.load (0xFE00 + 4 * k)).toNat - 16 + h) ∧
      (∀ k < 40, ((s.load (0xFE00 + 4 * k)).toNat : Int) - 16 ≤ ly → (ly : Int) < (s.load (0xFE00 + 4 * k)).toNat - 16 + h →
        k ∈ kept ∨ (kept.length = 10 ∧ ∀ j ∈ kept, (s.load (0xFE01 + 4 * j)).toNat < (s.load (0xFE01 + 4 * k)).toNat ∨
          s.load (0xFE01 + 4 * j) = s.load (0xFE01 + 4 * k) ∧ j < k)))

/-- Sprite drawing (R389 to R393): a column shows the first of the line's sprites that draws there, else the background; a
sprite covers eight columns, its tile row and column by the flips and the height (R390); it does not draw at colour index
0, nor behind a nonzero background index when attr bit 7 is set, and draws through OBP0 or OBP1 by attr bit 4. -/
def Obligations.SpriteDrawing : Prop :=
  (∀ (s : State) (ly x : Nat), columnGrey s ly x =
    match (lineSprites s ly).findSome? (spritePixel s ly x (underPixel s ly x).1) with
    | some g => g
    | none => (underPixel s ly x).2) ∧
  (∀ (s : State) (ly x : Nat) (p : Sprite), (spriteIndex s ly x p).isSome = true ↔ (p.x : Int) - 8 ≤ x ∧ x < p.x) ∧
  (∀ (s : State) (ly x h row column tile : Nat) (p : Sprite), h = (if bit (s.load Port.LCDC) 2 then 16 else 8) →
    p.y ≤ ly + 16 → ly + 16 < p.y + h → p.x ≤ x + 8 → x < p.x →
    row = (if bit p.attr 6 then h - 1 - (ly + 16 - p.y) else ly + 16 - p.y) →
    column = (if bit p.attr 5 then 7 - (x + 8 - p.x) else x + 8 - p.x) →
    tile = (if h = 8 then p.tile else if row < 8 then p.tile - p.tile % 2 else p.tile - p.tile % 2 + 1) →
    ∃ ci, spriteIndex s ly x p = some ci ∧
      ci.getLsbD 0 = bit (s.load (0x8000 + 16 * tile + 2 * (row % 8))) (7 - column) ∧
      ci.getLsbD 1 = bit (s.load (0x8000 + 16 * tile + 2 * (row % 8) + 1)) (7 - column)) ∧
  (∀ (s : State) (ly x : Nat) (under : BitVec 2) (p : Sprite),
    (spriteIndex s ly x p = none → spritePixel s ly x under p = none) ∧
    ∀ ci : BitVec 2, spriteIndex s ly x p = some ci →
      (ci = 0 → spritePixel s ly x under p = none) ∧
      (bit p.attr 7 = true → under ≠ 0 → spritePixel s ly x under p = none) ∧
      (ci ≠ 0 → bit p.attr 7 = false ∨ under = 0 → spritePixel s ly x under p =
        some (shade (s.load (if bit p.attr 4 then Port.OBP1 else Port.OBP0)) ci)))

/-! ## The host -/

/-- What the host does between steps: the frame-complete query returns the flag and clears it, so a second query answers false
(R399); a press or a release changes that button alone (R78, R453). -/
def Obligations.HostInteractions : Prop :=
  ∀ (s : State) (k : Button),
    s.queryFrameComplete.1 = s.display.frameComplete ∧ s.queryFrameComplete.2.queryFrameComplete.1 = false ∧
    s.queryFrameComplete.2 = { s with display := { s.display with frameComplete := false } } ∧
    s.press k = { s with buttons := (s.press k).buttons } ∧ s.release k = { s with buttons := (s.release k).buttons } ∧
    ∀ j : Button, Buttons.get (s.press k).buttons j = (if j = k then true else Buttons.get s.buttons j) ∧
      Buttons.get (s.release k).buttons j = (if j = k then false else Buttons.get s.buttons j)
end

