-- ==== Sys2Proof/Laws/Region.lean ====
section
/-! SUPPORT. The address decode: each region is one interval, so that a proof about addresses is arithmetic. -/

namespace Sys2Proof.Machine

/-- The first and the last address of a region (the table of R62). -/
def Region.bounds : Region → Nat × Nat
  | .fixedRom => (0x0000, 0x3FFF)
  | .bankedRom => (0x4000, 0x7FFF)
  | .vram => (0x8000, 0x9FFF)
  | .cartRam => (0xA000, 0xBFFF)
  | .wram => (0xC000, 0xDFFF)
  | .echo => (0xE000, 0xFDFF)
  | .oam => (0xFE00, 0xFE9F)
  | .unusable => (0xFEA0, 0xFEFF)
  | .io => (0xFF00, 0xFF7F)
  | .hram => (0xFF80, 0xFFFE)
  | .ie => (0xFFFF, 0xFFFF)

/-- An address lies in the interval of its region. -/
theorem region_bounds (a : Word) : (region a).bounds.1 ≤ a.toNat ∧ a.toNat ≤ (region a).bounds.2 := by
  have hlt : a.toNat < 65536 := a.isLt
  unfold region
  dsimp only
  split_ifs <;> simp only [Region.bounds] <;> omega

/-- An address in the interval of a region decodes to it. -/
theorem region_of_bounds {a : Word} {r : Region} (h1 : r.bounds.1 ≤ a.toNat) (h2 : a.toNat ≤ r.bounds.2) :
    region a = r := by
  have h := region_bounds a
  generalize region a = q at h
  cases q <;> cases r <;> simp only [Region.bounds] at h h1 h2 <;> first | rfl | omega

theorem bounds_of_region {a : Word} {r : Region} (h : region a = r) : r.bounds.1 ≤ a.toNat ∧ a.toNat ≤ r.bounds.2 :=
  h ▸ region_bounds a

/-- The storage key of an address is the address, but in the echo region. -/
theorem storageKey_eq {a : Word} (h : region a ≠ .echo) : storageKey a = a.toNat := by
  unfold storageKey
  split
  · contradiction
  · rfl

theorem storageKey_echo {a : Word} (h : region a = .echo) : storageKey a = a.toNat - 0x2000 := by
  unfold storageKey
  rw [h]

theorem isStorageKey_eq_true {k : Nat} : isStorageKey k = true ↔
    (0x8000 ≤ k ∧ k < 0xA000) ∨ (0xC000 ≤ k ∧ k < 0xE000) ∨ (0xFE00 ≤ k ∧ k < 0xFEA0) ∨ (0xFF00 ≤ k ∧ k ≤ 0xFFFF) := by
  simp only [isStorageKey, Bool.or_eq_true, decide_eq_true_eq]
  tauto

/-- Each region of bus storage reaches a storage key, and never LY's outside the I/O block. -/
theorem isStorageKey_storageKey {a : Word} (h : match region a with
    | .vram | .wram | .echo | .oam | .hram | .ie => True
    | .fixedRom | .bankedRom | .cartRam | .unusable | .io => False) :
    isStorageKey (storageKey a) = true ∧ storageKey a ≠ Port.LY := by
  have hb := region_bounds a
  rw [isStorageKey_eq_true]
  cases hr : region a <;> rw [hr] at h hb <;> simp only [Region.bounds] at h hb
  case echo => rw [storageKey_echo hr]; exact ⟨by omega, by show a.toNat - 0x2000 ≠ 0xFF44; omega⟩
  all_goals rw [storageKey_eq (by rw [hr]; decide)]; exact ⟨by omega, by show a.toNat ≠ 0xFF44; omega⟩

end Sys2Proof.Machine
end

