-- ==== Sys2Proof/Laws/Memory.lean ====
section
/-! SUPPORT. The laws of a memory: read after write, the canonical form kept by every operation, and equality of
canonical memories that read alike. -/

namespace Sys2Proof.Machine

namespace Memory

variable {st : Store}

@[simp] theorem read_nil (k : Nat) : read st [] k = unlisted st k := rfl

theorem read_erase_same (m : Memory) (k : Nat) : read st (m.erase k) k = unlisted st k := by
  induction m with
  | nil => rfl
  | cons c m ih =>
    obtain ⟨a, v⟩ := c
    by_cases h : a = k <;> simp [erase, read, h, ih]

theorem read_erase_ne (m : Memory) {k j : Nat} (hj : j ≠ k) : read st (m.erase k) j = read st m j := by
  induction m with
  | nil => rfl
  | cons c m ih =>
    obtain ⟨a, v⟩ := c
    by_cases h : a = k
    · subst h; simp [erase, read, ih, Ne.symm hj]
    · by_cases h' : a = j
      · subst h'; simp [erase, read, h]
      · simp [erase, read, h, h', ih]

theorem mem_erase {m : Memory} {k : Nat} {c : Host.Cell} (h : c ∈ m.erase k) : c ∈ m ∧ c.1 ≠ k := by
  induction m with
  | nil => simp [erase] at h
  | cons d m ih =>
    obtain ⟨a, v⟩ := d
    by_cases hk : a = k
    · simp only [erase, hk, if_true] at h
      exact ⟨List.mem_cons_of_mem _ (ih h).1, (ih h).2⟩
    · simp only [erase, hk, if_false, List.mem_cons] at h
      rcases h with rfl | h
      · exact ⟨List.mem_cons_self, hk⟩
      · exact ⟨List.mem_cons_of_mem _ (ih h).1, (ih h).2⟩

theorem read_insert_ne (m : Memory) {k j : Nat} (v : Byte) (hj : j ≠ k) : read st (m.insert k v) j = read st m j := by
  induction m with
  | nil => simp [insert, read, Ne.symm hj]
  | cons c m ih =>
    obtain ⟨a, w⟩ := c
    by_cases h : k < a
    · simp [insert, read, h, Ne.symm hj]
    · by_cases h' : a = j
      · subst h'; simp [insert, read, h]
      · simp [insert, read, h, h', ih]

theorem read_insert_same (m : Memory) {k : Nat} (v : Byte) (hk : ∀ c ∈ m, c.1 ≠ k) :
    read st (m.insert k v) k = v := by
  induction m with
  | nil => simp [insert, read]
  | cons c m ih =>
    obtain ⟨a, w⟩ := c
    have ha : a ≠ k := hk (a, w) List.mem_cons_self
    by_cases h : k < a
    · simp [insert, read, h]
    · simp [insert, read, h, ha, ih fun c hc => hk c (List.mem_cons_of_mem _ hc)]

/-- A read of the written address gives the written byte. -/
theorem read_write_same (m : Memory) (k : Nat) (v : Byte) : read st (write st m k v) k = v := by
  unfold write
  split
  · next h => rw [read_erase_same, h]
  · exact read_insert_same _ _ fun c hc => (mem_erase hc).2

/-- A write leaves every other address alone. -/
theorem read_write_ne (m : Memory) {k j : Nat} (v : Byte) (hj : j ≠ k) : read st (write st m k v) j = read st m j := by
  unfold write
  split
  · exact read_erase_ne m hj
  · rw [read_insert_ne _ _ hj, read_erase_ne m hj]

theorem read_write (m : Memory) (k j : Nat) (v : Byte) :
    read st (write st m k v) j = if j = k then v else read st m j := by
  split
  · next h => rw [h, read_write_same]
  · next h => exact read_write_ne m v h

theorem mem_insert {m : Memory} {k : Nat} {v : Byte} {c : Host.Cell} (h : c ∈ m.insert k v) : c = (k, v) ∨ c ∈ m := by
  induction m with
  | nil => simpa [insert] using h
  | cons d m ih =>
    obtain ⟨a, w⟩ := d
    by_cases hk : k < a
    · simpa [insert, hk] using h
    · simp only [insert, hk, if_false, List.mem_cons] at h
      rcases h with rfl | h
      · simp
      · rcases ih h with h | h <;> simp [h]

/-- Every entry of a written memory is the new one or an old one. -/
theorem mem_write {m : Memory} {k : Nat} {v : Byte} {c : Host.Cell} (h : c ∈ write st m k v) : c = (k, v) ∨ c ∈ m := by
  unfold write at h
  split at h
  · exact .inr (mem_erase h).1
  · exact (mem_insert h).imp id fun h => (mem_erase h).1

@[simp] theorem wf_nil : wf st [] := by simp [wf]

theorem wf_erase {m : Memory} (k : Nat) (h : m.wf st) : (m.erase k).wf st := by
  refine ⟨?_, fun c hc => h.2 c (mem_erase hc).1⟩
  have hp := h.1
  clear h
  induction m with
  | nil => exact hp
  | cons d m ih =>
    obtain ⟨a, v⟩ := d
    obtain ⟨h1, h2⟩ := List.pairwise_cons.1 hp
    by_cases hk : a = k
    · simpa [erase, hk] using ih h2
    · simp only [erase, hk, if_false]
      exact List.pairwise_cons.2 ⟨fun c hc => h1 c (mem_erase hc).1, ih h2⟩

theorem pairwise_insert {m : Memory} {k : Nat} (v : Byte) (hp : m.Pairwise fun x y => x.1 < y.1)
    (hk : ∀ c ∈ m, c.1 ≠ k) : (m.insert k v).Pairwise fun x y => x.1 < y.1 := by
  induction m with
  | nil => simp [insert]
  | cons d m ih =>
    obtain ⟨a, w⟩ := d
    obtain ⟨h1, h2⟩ := List.pairwise_cons.1 hp
    have ha : a ≠ k := hk (a, w) List.mem_cons_self
    by_cases hlt : k < a
    · simp only [insert, hlt, if_true]
      refine List.pairwise_cons.2 ⟨fun c hc => ?_, hp⟩
      rcases List.mem_cons.1 hc with rfl | hc
      · exact hlt
      · exact lt_trans hlt (h1 c hc)
    · simp only [insert, hlt, if_false]
      refine List.pairwise_cons.2 ⟨fun c hc => ?_, ih h2 fun c hc => hk c (List.mem_cons_of_mem _ hc)⟩
      rcases mem_insert hc with rfl | hc
      · show a < k; omega
      · exact h1 c hc

/-- A write keeps the canonical form. -/
theorem wf_write {m : Memory} (k : Nat) (v : Byte) (h : m.wf st) : (write st m k v).wf st := by
  have he := wf_erase k h
  unfold write
  split
  · exact he
  · next hv =>
    refine ⟨pairwise_insert v he.1 fun c hc => (mem_erase hc).2, fun c hc => ?_⟩
    rcases mem_insert hc with rfl | hc
    · exact hv
    · exact he.2 c hc

theorem wf_filter {m : Memory} (p : Host.Cell → Bool) (h : m.wf st) : wf st (m.filter p) :=
  ⟨h.1.filter p, fun c hc => h.2 c (List.mem_of_mem_filter hc)⟩

theorem read_of_lt (m : Memory) {k : Nat} (h : ∀ c ∈ m, k < c.1) : read st m k = unlisted st k := by
  induction m with
  | nil => rfl
  | cons d m ih =>
    obtain ⟨a, v⟩ := d
    have : a ≠ k := Nat.ne_of_gt (h (a, v) List.mem_cons_self)
    simp [read, this, ih fun c hc => h c (List.mem_cons_of_mem _ hc)]

/-- Canonical memories that read alike at every address are equal. -/
theorem ext_of_read {m m' : Memory} (h : m.wf st) (h' : m'.wf st) (hr : ∀ k, read st m k = read st m' k) : m = m' := by
  induction m generalizing m' with
  | nil =>
    cases m' with
    | nil => rfl
    | cons d m' =>
      obtain ⟨a, v⟩ := d
      have := hr a
      simp only [read, if_true] at this
      exact absurd this.symm (h'.2 (a, v) List.mem_cons_self)
  | cons c m ih =>
    obtain ⟨a, v⟩ := c
    obtain ⟨h1, h2⟩ := List.pairwise_cons.1 h.1
    cases m' with
    | nil =>
      have := hr a
      simp only [read, if_true] at this
      exact absurd this (h.2 (a, v) List.mem_cons_self)
    | cons d m' =>
      obtain ⟨b, w⟩ := d
      obtain ⟨h1', h2'⟩ := List.pairwise_cons.1 h'.1
      have hab : a = b := by
        rcases Nat.lt_trichotomy a b with hlt | heq | hgt
        · have := hr a
          rw [read_of_lt ((b, w) :: m') fun c hc => (List.mem_cons.1 hc).elim (fun e => e ▸ hlt) fun e =>
            Nat.lt_trans hlt (h1' c e)] at this
          simp only [read, if_true] at this
          exact absurd this (h.2 (a, v) List.mem_cons_self)
        · exact heq
        · have := hr b
          rw [read_of_lt ((a, v) :: m) fun c hc => (List.mem_cons.1 hc).elim (fun e => e ▸ hgt) fun e =>
            Nat.lt_trans hgt (h1 c e)] at this
          simp only [read, if_true] at this
          exact absurd this.symm (h'.2 (b, w) List.mem_cons_self)
      subst hab
      have hvw : v = w := by simpa [read] using hr a
      subst hvw
      congr 1
      refine ih ⟨h2, fun c hc => h.2 c (List.mem_cons_of_mem _ hc)⟩
        ⟨h2', fun c hc => h'.2 c (List.mem_cons_of_mem _ hc)⟩ fun k => ?_
      by_cases hk : a = k
      · subst hk
        rw [read_of_lt m h1, read_of_lt m' h1']
      · simpa [read, hk] using hr k

end Memory

/-! ## The storage path -/

@[simp] theorem State.load_store_same (s : State) (k : Nat) (v : Byte) : (s.store k v).load k = v :=
  Memory.read_write_same _ _ _

theorem State.load_store_ne (s : State) {k j : Nat} (v : Byte) (h : j ≠ k) : (s.store k v).load j = s.load j :=
  Memory.read_write_ne _ _ h

theorem State.load_store (s : State) (k j : Nat) (v : Byte) :
    (s.store k v).load j = if j = k then v else s.load j :=
  Memory.read_write _ _ _ _

end Sys2Proof.Machine
end

