-- ==== Sys2Proof/Laws/State.lean ====
section
/-! SUPPORT. One lemma per field per named update of State, so that no proof unfolds an update; and the register file's
read after write. -/

namespace Sys2Proof.Machine

namespace State

variable (s : State)

@[simp] theorem store_regs (k : Nat) (v : Byte) : (s.store k v).regs = s.regs := rfl
@[simp] theorem store_flags (k : Nat) (v : Byte) : (s.store k v).flags = s.flags := rfl
@[simp] theorem store_sp (k : Nat) (v : Byte) : (s.store k v).sp = s.sp := rfl
@[simp] theorem store_pc (k : Nat) (v : Byte) : (s.store k v).pc = s.pc := rfl
@[simp] theorem store_ime (k : Nat) (v : Byte) : (s.store k v).ime = s.ime := rfl
@[simp] theorem store_halted (k : Nat) (v : Byte) : (s.store k v).halted = s.halted := rfl
@[simp] theorem store_eiPending (k : Nat) (v : Byte) : (s.store k v).eiPending = s.eiPending := rfl
@[simp] theorem store_booting (k : Nat) (v : Byte) : (s.store k v).booting = s.booting := rfl
@[simp] theorem store_vramGate (k : Nat) (v : Byte) : (s.store k v).vramGate = s.vramGate := rfl
@[simp] theorem store_oamGate (k : Nat) (v : Byte) : (s.store k v).oamGate = s.oamGate := rfl
@[simp] theorem store_cartRam (k : Nat) (v : Byte) : (s.store k v).cartRam = s.cartRam := rfl
@[simp] theorem store_bank (k : Nat) (v : Byte) : (s.store k v).bank = s.bank := rfl
@[simp] theorem store_display (k : Nat) (v : Byte) : (s.store k v).display = s.display := rfl
@[simp] theorem store_timer (k : Nat) (v : Byte) : (s.store k v).timer = s.timer := rfl
@[simp] theorem store_serialLog (k : Nat) (v : Byte) : (s.store k v).serialLog = s.serialLog := rfl
@[simp] theorem store_frame (k : Nat) (v : Byte) : (s.store k v).frame = s.frame := rfl
@[simp] theorem store_fault (k : Nat) (v : Byte) : (s.store k v).fault = s.fault := rfl
@[simp] theorem store_cost (k : Nat) (v : Byte) : (s.store k v).cost = s.cost := rfl
@[simp] theorem store_buttons (k : Nat) (v : Byte) : (s.store k v).buttons = s.buttons := rfl
@[simp] theorem store_draws (k : Nat) (v : Byte) : (s.store k v).draws = s.draws := rfl
@[simp] theorem store_cart (k : Nat) (v : Byte) : (s.store k v).cart = s.cart := rfl
@[simp] theorem store_bootRom (k : Nat) (v : Byte) : (s.store k v).bootRom = s.bootRom := rfl
@[simp] theorem store_params (k : Nat) (v : Byte) : (s.store k v).params = s.params := rfl

@[simp] theorem setR8_flags (x : Reg8) (v : Byte) : (s.setR8 x v).flags = s.flags := rfl
@[simp] theorem setR8_sp (x : Reg8) (v : Byte) : (s.setR8 x v).sp = s.sp := rfl
@[simp] theorem setR8_pc (x : Reg8) (v : Byte) : (s.setR8 x v).pc = s.pc := rfl
@[simp] theorem setR8_ime (x : Reg8) (v : Byte) : (s.setR8 x v).ime = s.ime := rfl
@[simp] theorem setR8_halted (x : Reg8) (v : Byte) : (s.setR8 x v).halted = s.halted := rfl
@[simp] theorem setR8_eiPending (x : Reg8) (v : Byte) : (s.setR8 x v).eiPending = s.eiPending := rfl
@[simp] theorem setR8_booting (x : Reg8) (v : Byte) : (s.setR8 x v).booting = s.booting := rfl
@[simp] theorem setR8_vramGate (x : Reg8) (v : Byte) : (s.setR8 x v).vramGate = s.vramGate := rfl
@[simp] theorem setR8_oamGate (x : Reg8) (v : Byte) : (s.setR8 x v).oamGate = s.oamGate := rfl
@[simp] theorem setR8_mem (x : Reg8) (v : Byte) : (s.setR8 x v).mem = s.mem := rfl
@[simp] theorem setR8_cartRam (x : Reg8) (v : Byte) : (s.setR8 x v).cartRam = s.cartRam := rfl
@[simp] theorem setR8_bank (x : Reg8) (v : Byte) : (s.setR8 x v).bank = s.bank := rfl
@[simp] theorem setR8_display (x : Reg8) (v : Byte) : (s.setR8 x v).display = s.display := rfl
@[simp] theorem setR8_timer (x : Reg8) (v : Byte) : (s.setR8 x v).timer = s.timer := rfl
@[simp] theorem setR8_serialLog (x : Reg8) (v : Byte) : (s.setR8 x v).serialLog = s.serialLog := rfl
@[simp] theorem setR8_frame (x : Reg8) (v : Byte) : (s.setR8 x v).frame = s.frame := rfl
@[simp] theorem setR8_fault (x : Reg8) (v : Byte) : (s.setR8 x v).fault = s.fault := rfl
@[simp] theorem setR8_cost (x : Reg8) (v : Byte) : (s.setR8 x v).cost = s.cost := rfl
@[simp] theorem setR8_buttons (x : Reg8) (v : Byte) : (s.setR8 x v).buttons = s.buttons := rfl
@[simp] theorem setR8_draws (x : Reg8) (v : Byte) : (s.setR8 x v).draws = s.draws := rfl
@[simp] theorem setR8_cart (x : Reg8) (v : Byte) : (s.setR8 x v).cart = s.cart := rfl
@[simp] theorem setR8_bootRom (x : Reg8) (v : Byte) : (s.setR8 x v).bootRom = s.bootRom := rfl
@[simp] theorem setR8_params (x : Reg8) (v : Byte) : (s.setR8 x v).params = s.params := rfl

@[simp] theorem setFlags_regs (f : Flags) : (s.setFlags f).regs = s.regs := rfl
@[simp] theorem setFlags_sp (f : Flags) : (s.setFlags f).sp = s.sp := rfl
@[simp] theorem setFlags_pc (f : Flags) : (s.setFlags f).pc = s.pc := rfl
@[simp] theorem setFlags_ime (f : Flags) : (s.setFlags f).ime = s.ime := rfl
@[simp] theorem setFlags_halted (f : Flags) : (s.setFlags f).halted = s.halted := rfl
@[simp] theorem setFlags_eiPending (f : Flags) : (s.setFlags f).eiPending = s.eiPending := rfl
@[simp] theorem setFlags_booting (f : Flags) : (s.setFlags f).booting = s.booting := rfl
@[simp] theorem setFlags_vramGate (f : Flags) : (s.setFlags f).vramGate = s.vramGate := rfl
@[simp] theorem setFlags_oamGate (f : Flags) : (s.setFlags f).oamGate = s.oamGate := rfl
@[simp] theorem setFlags_mem (f : Flags) : (s.setFlags f).mem = s.mem := rfl
@[simp] theorem setFlags_cartRam (f : Flags) : (s.setFlags f).cartRam = s.cartRam := rfl
@[simp] theorem setFlags_bank (f : Flags) : (s.setFlags f).bank = s.bank := rfl
@[simp] theorem setFlags_display (f : Flags) : (s.setFlags f).display = s.display := rfl
@[simp] theorem setFlags_timer (f : Flags) : (s.setFlags f).timer = s.timer := rfl
@[simp] theorem setFlags_serialLog (f : Flags) : (s.setFlags f).serialLog = s.serialLog := rfl
@[simp] theorem setFlags_frame (f : Flags) : (s.setFlags f).frame = s.frame := rfl
@[simp] theorem setFlags_fault (f : Flags) : (s.setFlags f).fault = s.fault := rfl
@[simp] theorem setFlags_cost (f : Flags) : (s.setFlags f).cost = s.cost := rfl
@[simp] theorem setFlags_buttons (f : Flags) : (s.setFlags f).buttons = s.buttons := rfl
@[simp] theorem setFlags_draws (f : Flags) : (s.setFlags f).draws = s.draws := rfl
@[simp] theorem setFlags_cart (f : Flags) : (s.setFlags f).cart = s.cart := rfl
@[simp] theorem setFlags_bootRom (f : Flags) : (s.setFlags f).bootRom = s.bootRom := rfl
@[simp] theorem setFlags_params (f : Flags) : (s.setFlags f).params = s.params := rfl

@[simp] theorem setHL_flags (v : Word) : (s.setHL v).flags = s.flags := rfl
@[simp] theorem setHL_sp (v : Word) : (s.setHL v).sp = s.sp := rfl
@[simp] theorem setHL_pc (v : Word) : (s.setHL v).pc = s.pc := rfl
@[simp] theorem setHL_ime (v : Word) : (s.setHL v).ime = s.ime := rfl
@[simp] theorem setHL_halted (v : Word) : (s.setHL v).halted = s.halted := rfl
@[simp] theorem setHL_eiPending (v : Word) : (s.setHL v).eiPending = s.eiPending := rfl
@[simp] theorem setHL_booting (v : Word) : (s.setHL v).booting = s.booting := rfl
@[simp] theorem setHL_vramGate (v : Word) : (s.setHL v).vramGate = s.vramGate := rfl
@[simp] theorem setHL_oamGate (v : Word) : (s.setHL v).oamGate = s.oamGate := rfl
@[simp] theorem setHL_mem (v : Word) : (s.setHL v).mem = s.mem := rfl
@[simp] theorem setHL_cartRam (v : Word) : (s.setHL v).cartRam = s.cartRam := rfl
@[simp] theorem setHL_bank (v : Word) : (s.setHL v).bank = s.bank := rfl
@[simp] theorem setHL_display (v : Word) : (s.setHL v).display = s.display := rfl
@[simp] theorem setHL_timer (v : Word) : (s.setHL v).timer = s.timer := rfl
@[simp] theorem setHL_serialLog (v : Word) : (s.setHL v).serialLog = s.serialLog := rfl
@[simp] theorem setHL_frame (v : Word) : (s.setHL v).frame = s.frame := rfl
@[simp] theorem setHL_fault (v : Word) : (s.setHL v).fault = s.fault := rfl
@[simp] theorem setHL_cost (v : Word) : (s.setHL v).cost = s.cost := rfl
@[simp] theorem setHL_buttons (v : Word) : (s.setHL v).buttons = s.buttons := rfl
@[simp] theorem setHL_draws (v : Word) : (s.setHL v).draws = s.draws := rfl
@[simp] theorem setHL_cart (v : Word) : (s.setHL v).cart = s.cart := rfl
@[simp] theorem setHL_bootRom (v : Word) : (s.setHL v).bootRom = s.bootRom := rfl
@[simp] theorem setHL_params (v : Word) : (s.setHL v).params = s.params := rfl

@[simp] theorem setR16_flags (p : Reg16) (v : Word) : (s.setR16 p v).flags = s.flags := by cases p <;> rfl
@[simp] theorem setR16_pc (p : Reg16) (v : Word) : (s.setR16 p v).pc = s.pc := by cases p <;> rfl
@[simp] theorem setR16_ime (p : Reg16) (v : Word) : (s.setR16 p v).ime = s.ime := by cases p <;> rfl
@[simp] theorem setR16_halted (p : Reg16) (v : Word) : (s.setR16 p v).halted = s.halted := by cases p <;> rfl
@[simp] theorem setR16_eiPending (p : Reg16) (v : Word) : (s.setR16 p v).eiPending = s.eiPending := by cases p <;> rfl
@[simp] theorem setR16_booting (p : Reg16) (v : Word) : (s.setR16 p v).booting = s.booting := by cases p <;> rfl
@[simp] theorem setR16_vramGate (p : Reg16) (v : Word) : (s.setR16 p v).vramGate = s.vramGate := by cases p <;> rfl
@[simp] theorem setR16_oamGate (p : Reg16) (v : Word) : (s.setR16 p v).oamGate = s.oamGate := by cases p <;> rfl
@[simp] theorem setR16_mem (p : Reg16) (v : Word) : (s.setR16 p v).mem = s.mem := by cases p <;> rfl
@[simp] theorem setR16_cartRam (p : Reg16) (v : Word) : (s.setR16 p v).cartRam = s.cartRam := by cases p <;> rfl
@[simp] theorem setR16_bank (p : Reg16) (v : Word) : (s.setR16 p v).bank = s.bank := by cases p <;> rfl
@[simp] theorem setR16_display (p : Reg16) (v : Word) : (s.setR16 p v).display = s.display := by cases p <;> rfl
@[simp] theorem setR16_timer (p : Reg16) (v : Word) : (s.setR16 p v).timer = s.timer := by cases p <;> rfl
@[simp] theorem setR16_serialLog (p : Reg16) (v : Word) : (s.setR16 p v).serialLog = s.serialLog := by cases p <;> rfl
@[simp] theorem setR16_frame (p : Reg16) (v : Word) : (s.setR16 p v).frame = s.frame := by cases p <;> rfl
@[simp] theorem setR16_fault (p : Reg16) (v : Word) : (s.setR16 p v).fault = s.fault := by cases p <;> rfl
@[simp] theorem setR16_cost (p : Reg16) (v : Word) : (s.setR16 p v).cost = s.cost := by cases p <;> rfl
@[simp] theorem setR16_buttons (p : Reg16) (v : Word) : (s.setR16 p v).buttons = s.buttons := by cases p <;> rfl
@[simp] theorem setR16_draws (p : Reg16) (v : Word) : (s.setR16 p v).draws = s.draws := by cases p <;> rfl
@[simp] theorem setR16_cart (p : Reg16) (v : Word) : (s.setR16 p v).cart = s.cart := by cases p <;> rfl
@[simp] theorem setR16_bootRom (p : Reg16) (v : Word) : (s.setR16 p v).bootRom = s.bootRom := by cases p <;> rfl
@[simp] theorem setR16_params (p : Reg16) (v : Word) : (s.setR16 p v).params = s.params := by cases p <;> rfl

@[simp] theorem setStackPair_sp (q : StackPair) (v : Word) : (s.setStackPair q v).sp = s.sp := by cases q <;> rfl
@[simp] theorem setStackPair_pc (q : StackPair) (v : Word) : (s.setStackPair q v).pc = s.pc := by cases q <;> rfl
@[simp] theorem setStackPair_ime (q : StackPair) (v : Word) : (s.setStackPair q v).ime = s.ime := by cases q <;> rfl
@[simp] theorem setStackPair_halted (q : StackPair) (v : Word) : (s.setStackPair q v).halted = s.halted := by cases q <;> rfl
@[simp] theorem setStackPair_eiPending (q : StackPair) (v : Word) : (s.setStackPair q v).eiPending = s.eiPending := by cases q <;> rfl
@[simp] theorem setStackPair_booting (q : StackPair) (v : Word) : (s.setStackPair q v).booting = s.booting := by cases q <;> rfl
@[simp] theorem setStackPair_vramGate (q : StackPair) (v : Word) : (s.setStackPair q v).vramGate = s.vramGate := by cases q <;> rfl
@[simp] theorem setStackPair_oamGate (q : StackPair) (v : Word) : (s.setStackPair q v).oamGate = s.oamGate := by cases q <;> rfl
@[simp] theorem setStackPair_mem (q : StackPair) (v : Word) : (s.setStackPair q v).mem = s.mem := by cases q <;> rfl
@[simp] theorem setStackPair_cartRam (q : StackPair) (v : Word) : (s.setStackPair q v).cartRam = s.cartRam := by cases q <;> rfl
@[simp] theorem setStackPair_bank (q : StackPair) (v : Word) : (s.setStackPair q v).bank = s.bank := by cases q <;> rfl
@[simp] theorem setStackPair_display (q : StackPair) (v : Word) : (s.setStackPair q v).display = s.display := by cases q <;> rfl
@[simp] theorem setStackPair_timer (q : StackPair) (v : Word) : (s.setStackPair q v).timer = s.timer := by cases q <;> rfl
@[simp] theorem setStackPair_serialLog (q : StackPair) (v : Word) : (s.setStackPair q v).serialLog = s.serialLog := by cases q <;> rfl
@[simp] theorem setStackPair_frame (q : StackPair) (v : Word) : (s.setStackPair q v).frame = s.frame := by cases q <;> rfl
@[simp] theorem setStackPair_fault (q : StackPair) (v : Word) : (s.setStackPair q v).fault = s.fault := by cases q <;> rfl
@[simp] theorem setStackPair_cost (q : StackPair) (v : Word) : (s.setStackPair q v).cost = s.cost := by cases q <;> rfl
@[simp] theorem setStackPair_buttons (q : StackPair) (v : Word) : (s.setStackPair q v).buttons = s.buttons := by cases q <;> rfl
@[simp] theorem setStackPair_draws (q : StackPair) (v : Word) : (s.setStackPair q v).draws = s.draws := by cases q <;> rfl
@[simp] theorem setStackPair_cart (q : StackPair) (v : Word) : (s.setStackPair q v).cart = s.cart := by cases q <;> rfl
@[simp] theorem setStackPair_bootRom (q : StackPair) (v : Word) : (s.setStackPair q v).bootRom = s.bootRom := by cases q <;> rfl
@[simp] theorem setStackPair_params (q : StackPair) (v : Word) : (s.setStackPair q v).params = s.params := by cases q <;> rfl

@[simp] theorem stopped_regs (k : FaultKind) : (s.stopped k).regs = s.regs := rfl
@[simp] theorem stopped_flags (k : FaultKind) : (s.stopped k).flags = s.flags := rfl
@[simp] theorem stopped_sp (k : FaultKind) : (s.stopped k).sp = s.sp := rfl
@[simp] theorem stopped_pc (k : FaultKind) : (s.stopped k).pc = s.pc := rfl
@[simp] theorem stopped_ime (k : FaultKind) : (s.stopped k).ime = s.ime := rfl
@[simp] theorem stopped_halted (k : FaultKind) : (s.stopped k).halted = s.halted := rfl
@[simp] theorem stopped_eiPending (k : FaultKind) : (s.stopped k).eiPending = s.eiPending := rfl
@[simp] theorem stopped_booting (k : FaultKind) : (s.stopped k).booting = s.booting := rfl
@[simp] theorem stopped_vramGate (k : FaultKind) : (s.stopped k).vramGate = s.vramGate := rfl
@[simp] theorem stopped_oamGate (k : FaultKind) : (s.stopped k).oamGate = s.oamGate := rfl
@[simp] theorem stopped_mem (k : FaultKind) : (s.stopped k).mem = s.mem := rfl
@[simp] theorem stopped_cartRam (k : FaultKind) : (s.stopped k).cartRam = s.cartRam := rfl
@[simp] theorem stopped_bank (k : FaultKind) : (s.stopped k).bank = s.bank := rfl
@[simp] theorem stopped_display (k : FaultKind) : (s.stopped k).display = s.display := rfl
@[simp] theorem stopped_timer (k : FaultKind) : (s.stopped k).timer = s.timer := rfl
@[simp] theorem stopped_serialLog (k : FaultKind) : (s.stopped k).serialLog = s.serialLog := rfl
@[simp] theorem stopped_frame (k : FaultKind) : (s.stopped k).frame = s.frame := rfl
@[simp] theorem stopped_buttons (k : FaultKind) : (s.stopped k).buttons = s.buttons := rfl
@[simp] theorem stopped_draws (k : FaultKind) : (s.stopped k).draws = s.draws := rfl
@[simp] theorem stopped_cart (k : FaultKind) : (s.stopped k).cart = s.cart := rfl
@[simp] theorem stopped_bootRom (k : FaultKind) : (s.stopped k).bootRom = s.bootRom := rfl
@[simp] theorem stopped_params (k : FaultKind) : (s.stopped k).params = s.params := rfl

@[simp] theorem setR8_regs (x : Reg8) (v : Byte) : (s.setR8 x v).regs = s.regs.put x v := rfl
@[simp] theorem setFlags_flags (f : Flags) : (s.setFlags f).flags = f := rfl
@[simp] theorem setHL_hl (v : Word) : (s.setHL v).hl = pair (hi v) (lo v) := rfl
@[simp] theorem store_mem (k : Nat) (v : Byte) : (s.store k v).mem = s.mem.write .bus k v := rfl
@[simp] theorem stopped_fault (k : FaultKind) : (s.stopped k).fault = some k := rfl
@[simp] theorem stopped_cost (k : FaultKind) : (s.stopped k).cost = 0 := rfl

end State

/-! ## The register file -/

@[simp] theorem Regs.get_put_same (r : Regs) (x : Reg8) (v : Byte) : (r.put x v).get x = v := by cases x <;> rfl

theorem Regs.get_put_ne (r : Regs) {x y : Reg8} (v : Byte) (h : y ≠ x) : (r.put x v).get y = r.get y := by
  cases x <;> cases y <;> first | rfl | exact absurd rfl h

/-! ## Bytes and words (R9) -/

theorem getLsbD_pair (h l : Byte) (i : Nat) :
    (pair h l).getLsbD i = if i < 8 then l.getLsbD i else h.getLsbD (i - 8) := BitVec.getLsbD_append

@[simp] theorem hi_pair (h l : Byte) : hi (pair h l) = h := by
  apply BitVec.eq_of_getLsbD_eq
  intro i hi'
  simp [hi, getLsbD_pair, hi']

@[simp] theorem lo_pair (h l : Byte) : lo (pair h l) = l := by
  apply BitVec.eq_of_getLsbD_eq
  intro i hi'
  simp [lo, getLsbD_pair, hi']

@[simp] theorem pair_hi_lo (v : Word) : pair (hi v) (lo v) = v := by
  apply BitVec.eq_of_getLsbD_eq
  intro i hi'
  by_cases h : i < 8
  · simp [hi, lo, getLsbD_pair, h]
  · have h1 : 8 + (i - 8) = i := by omega
    have h2 : i - 8 < 8 := by omega
    simp [hi, lo, getLsbD_pair, h, h1, h2]

end Sys2Proof.Machine
end

