-- ==== Sys2Proof/Laws/Access.lean ====
section
/-! SUPPORT. Bus accesses: their spec lemmas in the terms of Safety.lean, and one relation, `Access`, that says everything a
processor access can change; it is reflexive and transitive, so that a sequence of accesses is one too. -/

namespace Sys2Proof.Machine

/-! ## Sequencing -/

theorem bind_ok {α β : Type} {x : Except Fault α} {f : α → Except Fault β} {r : β} (h : (x >>= f) = .ok r) :
    ∃ a, x = .ok a ∧ f a = .ok r := by
  cases x with
  | error e => cases h
  | ok a => exact ⟨a, rfl, h⟩

theorem bind_error {α β : Type} {x : Except Fault α} {f : α → Except Fault β} {e : Fault} (h : (x >>= f) = .error e) :
    x = .error e ∨ ∃ a, x = .ok a ∧ f a = .error e := by
  cases x with
  | error e' => cases (h : Except.error e' = Except.error e); exact .inl rfl
  | ok a => exact .inr ⟨a, rfl, h⟩

@[simp] theorem ok_bind {α β : Type} (a : α) (f : α → Except Fault β) : ((Except.ok a : Except Fault α) >>= f) = f a := rfl

@[simp] theorem error_bind {α β : Type} (e : Fault) (f : α → Except Fault β) :
    ((Except.error e : Except Fault α) >>= f) = .error e := rfl

@[simp] theorem pure_ok {α : Type} (a : α) : (pure a : Except Fault α) = .ok a := rfl

@[simp] theorem complete_ok (c : Nat) (s : State) : complete c (.ok s) = .next { s with cost := c } := rfl

@[simp] theorem complete_error (c : Nat) (f : Fault) : complete c (.error f) = .fault f := rfl

/-! ## What an access can change -/

/-- The fields a processor access never touches. -/
structure SameCore (s t : State) : Prop where
  regs      : t.regs = s.regs
  flags     : t.flags = s.flags
  sp        : t.sp = s.sp
  pc        : t.pc = s.pc
  ime       : t.ime = s.ime
  halted    : t.halted = s.halted
  eiPending : t.eiPending = s.eiPending
  cost      : t.cost = s.cost

/-- What every part of a step before the devices' advance keeps: the display controller and its gates, LY, the frame, the
fault, the buttons, TIMA's accumulator, the images, the parameters; and the one-way changes of the rest. -/
structure Keeps (s t : State) : Prop where
  display   : t.display = s.display
  vramGate  : t.vramGate = s.vramGate
  oamGate   : t.oamGate = s.oamGate
  frame     : t.frame = s.frame
  fault     : t.fault = s.fault
  buttons   : t.buttons = s.buttons
  cart      : t.cart = s.cart
  bootRom   : t.bootRom = s.bootRom
  params    : t.params = s.params
  timer     : t.timer = s.timer ∨ s.params.divResetAcc = true ∧ t.timer = { s.timer with divAcc := 0 }
  booting   : t.booting = true → s.booting = true
  serialLog : s.serialLog <+: t.serialLog
  draws     : s.draws ≤ t.draws
  ly        : t.load Port.LY = s.load Port.LY
  eiPending : s.params.eiDelay = .none → t.eiPending = s.eiPending
  mem       : s.mem.wf .bus → t.mem.wf .bus
  cartRam   : s.cartRam.wf .cartRam → t.cartRam.wf .cartRam
  memKeys   : (∀ c ∈ s.mem, isStorageKey c.1 = true) → ∀ c ∈ t.mem, isStorageKey c.1 = true
  bufKeys   : (∀ c ∈ s.cartRam, c.1 < s.cart.ramSize.getD 0) → ∀ c ∈ t.cartRam, c.1 < t.cart.ramSize.getD 0

theorem SameCore.refl (s : State) : SameCore s s := ⟨rfl, rfl, rfl, rfl, rfl, rfl, rfl, rfl⟩

theorem SameCore.trans {s t u : State} (h : SameCore s t) (k : SameCore t u) : SameCore s u :=
  ⟨k.regs.trans h.regs, k.flags.trans h.flags, k.sp.trans h.sp, k.pc.trans h.pc, k.ime.trans h.ime,
    k.halted.trans h.halted, k.eiPending.trans h.eiPending, k.cost.trans h.cost⟩

theorem Keeps.refl (s : State) : Keeps s s where
  display := rfl
  vramGate := rfl
  oamGate := rfl
  frame := rfl
  fault := rfl
  buttons := rfl
  cart := rfl
  bootRom := rfl
  params := rfl
  timer := .inl rfl
  booting := id
  serialLog := List.prefix_rfl
  draws := Nat.le_refl _
  ly := rfl
  eiPending := fun _ => rfl
  mem := id
  cartRam := id
  memKeys := id
  bufKeys := id

theorem Keeps.trans {s t u : State} (h : Keeps s t) (k : Keeps t u) : Keeps s u where
  display := k.display.trans h.display
  vramGate := k.vramGate.trans h.vramGate
  oamGate := k.oamGate.trans h.oamGate
  frame := k.frame.trans h.frame
  fault := k.fault.trans h.fault
  buttons := k.buttons.trans h.buttons
  cart := k.cart.trans h.cart
  bootRom := k.bootRom.trans h.bootRom
  params := k.params.trans h.params
  timer := by
    rcases h.timer with e | ⟨p, e⟩ <;> rcases k.timer with e' | ⟨p', e'⟩
    · exact .inl (e'.trans e)
    · exact .inr ⟨h.params ▸ p', by rw [e', e]⟩
    · exact .inr ⟨p, by rw [e', e]⟩
    · exact .inr ⟨p, by rw [e', e]⟩
  booting := fun x => h.booting (k.booting x)
  serialLog := h.serialLog.trans k.serialLog
  draws := Nat.le_trans h.draws k.draws
  ly := k.ly.trans h.ly
  eiPending := fun p => (k.eiPending (h.params ▸ p)).trans (h.eiPending p)
  mem := fun x => k.mem (h.mem x)
  cartRam := fun x => k.cartRam (h.cartRam x)
  memKeys := fun x => k.memKeys (h.memKeys x)
  bufKeys := fun x => k.bufKeys (h.bufKeys x)

/-- What a processor access can change. -/
structure Access (s t : State) : Prop where
  core  : SameCore s t
  keeps : Keeps s t

theorem Access.refl (s : State) : Access s s := ⟨.refl s, .refl s⟩

theorem Access.trans {s t u : State} (h : Access s t) (k : Access t u) : Access s u :=
  ⟨h.core.trans k.core, h.keeps.trans k.keeps⟩

/-- A result reached by changes that `R` allows: a state `R` relates to the first, or a fault raised in one. -/
def Within (R : State → State → Prop) (s : State) (r : Except Fault State) : Prop :=
  (∀ t, r = .ok t → R s t) ∧ ∀ f, r = .error f → ∃ (k : FaultKind) (t : State), f = k.toFault (t.stopped k) ∧ R s t

theorem Within.ok {R : State → State → Prop} {s t : State} (h : R s t) : Within R s (.ok t) :=
  ⟨fun _ e => by cases e; exact h, fun _ e => (nomatch e)⟩

theorem Within.raise {R : State → State → Prop} {s t : State} (k : FaultKind) (h : R s t) : Within R s (raise k t) :=
  ⟨fun _ e => (nomatch e), fun _ e => by cases e; exact ⟨k, t, rfl, h⟩⟩

theorem Within.mono {R Q : State → State → Prop} {s : State} {r : Except Fault State} (h : Within R s r)
    (hRQ : ∀ t, R s t → Q s t) : Within Q s r :=
  ⟨fun t e => hRQ t (h.1 t e), fun f e => let ⟨k, t, e', hR⟩ := h.2 f e; ⟨k, t, e', hRQ t hR⟩⟩

theorem Within.bind {R : State → State → Prop} (trans : ∀ {s t u}, R s t → R t u → R s u) {s : State}
    {x : Except Fault State} {f : State → Except Fault State} (hx : Within R s x)
    (hf : ∀ t, R s t → Within R t (f t)) : Within R s (x >>= f) := by
  cases x with
  | error e => exact ⟨fun _ h => (nomatch h), fun e' h => by cases h; exact hx.2 e rfl⟩
  | ok t =>
    have ht := hx.1 t rfl
    have hft := hf t ht
    exact ⟨fun u h => trans ht (hft.1 u h), fun e h => let ⟨k, u, e', hu⟩ := hft.2 e h; ⟨k, u, e', trans ht hu⟩⟩

/-! ## Reads -/

theorem State.Reads.stored {s : State} {a : Word} {v : Byte} (h : busView s a = .stored v) : s.Reads a v s :=
  .inl ⟨h, rfl⟩

/-- A read is the memory operation. -/
theorem memRead_of_reads {s t : State} {a : Word} {v : Byte} (h : s.Reads a v t) : memRead a s = .ok (v, t) := by
  rcases h with ⟨h, rfl⟩ | ⟨h, rfl, rfl⟩ <;> simp [memRead, h]

theorem reads_of_memRead {s t : State} {a : Word} {v : Byte} (h : memRead a s = .ok (v, t)) : s.Reads a v t := by
  unfold memRead at h
  cases hb : busView s a with
  | stored w => rw [hb] at h; cases h; exact .inl ⟨hb, rfl⟩
  | unspecified => rw [hb] at h; cases h; exact .inr ⟨hb, rfl, rfl⟩
  | outOfRange off => rw [hb] at h; cases h

theorem memRead_outOfRange {s : State} {a : Word} {off : Nat} (h : busView s a = .outOfRange off) :
    memRead a s = .error (.cartridgeOutOfRange off (s.stopped (.cartridgeOutOfRange off))) := by
  simp [memRead, h, raise, FaultKind.toFault]

theorem readable_iff_reads {s : State} {a : Word} : s.Readable a ↔ ∃ v t, s.Reads a v t := by
  constructor
  · intro h
    cases hb : busView s a with
    | stored v => exact ⟨v, s, .inl ⟨hb, rfl⟩⟩
    | unspecified => exact ⟨_, _, .inr ⟨hb, rfl, rfl⟩⟩
    | outOfRange off => exact absurd hb (h off)
  · rintro ⟨v, t, ⟨h, _⟩ | ⟨h, _⟩⟩ off <;> simp [h]

/-- What the processor path shows depends on nothing but these fields. -/
theorem busView_congr {s t : State} (a : Word) (hb : t.booting = s.booting) (hbr : t.bootRom = s.bootRom)
    (hc : t.cart = s.cart) (hk : t.bank = s.bank) (hr : t.cartRam = s.cartRam) (hv : t.vramGate = s.vramGate)
    (ho : t.oamGate = s.oamGate) (hm : t.mem = s.mem) (hj : t.params = s.params) (hu : t.buttons = s.buttons) :
    busView t a = busView s a := by
  cases s
  cases t
  simp only at hb hbr hc hk hr hv ho hm hj hu
  subst hb hbr hc hk hr hv ho hm hj hu
  rfl

theorem State.Reads.sameView {s t : State} {a : Word} {v : Byte} (h : s.Reads a v t) (b : Word) :
    busView t b = busView s b := by
  rcases h with ⟨_, rfl⟩ | ⟨_, _, rfl⟩
  · rfl
  · exact busView_congr b rfl rfl rfl rfl rfl rfl rfl rfl rfl rfl

theorem access_draw (s : State) : Access s { s with draws := s.draws + 1 } :=
  ⟨⟨rfl, rfl, rfl, rfl, rfl, rfl, rfl, rfl⟩,
    { Keeps.refl s with draws := Nat.le_succ _ }⟩

theorem State.Reads.access {s t : State} {a : Word} {v : Byte} (h : s.Reads a v t) : Access s t := by
  rcases h with ⟨_, rfl⟩ | ⟨_, _, rfl⟩
  · exact .refl _
  · exact access_draw s

/-- A read keeps every byte of every memory, and the banks. -/
theorem State.Reads.byteAt {s t : State} {a : Word} {v : Byte} (h : s.Reads a v t) (st : Store) (k : Nat) :
    t.byteAt st k = s.byteAt st k := by
  rcases h with ⟨_, rfl⟩ | ⟨_, _, rfl⟩ <;> rfl

theorem memRead_error {s : State} {a : Word} {f : Fault} (h : memRead a s = .error f) :
    ∃ off, busView s a = .outOfRange off ∧ f = .cartridgeOutOfRange off (s.stopped (.cartridgeOutOfRange off)) := by
  unfold memRead at h
  cases hb : busView s a with
  | stored w => rw [hb] at h; cases h
  | unspecified => rw [hb] at h; cases h
  | outOfRange off => rw [hb] at h; cases h; exact ⟨off, rfl, rfl⟩

/-- One lemma for everything a read can do. -/
theorem memRead_cases (a : Word) (s : State) :
    (∃ v t, s.Reads a v t ∧ memRead a s = .ok (v, t)) ∨
    ∃ off, busView s a = .outOfRange off ∧
      memRead a s = .error (.cartridgeOutOfRange off (s.stopped (.cartridgeOutOfRange off))) := by
  cases hb : busView s a with
  | stored v => exact .inl ⟨v, s, .inl ⟨hb, rfl⟩, by simp [memRead, hb]⟩
  | unspecified => exact .inl ⟨_, _, .inr ⟨hb, rfl, rfl⟩, by simp [memRead, hb]⟩
  | outOfRange off => exact .inr ⟨off, rfl, memRead_outOfRange hb⟩

/-- A read and what follows it. -/
theorem within_read {R : State → State → Prop} (trans : ∀ {s t u}, R s t → R t u → R s u)
    (hR : ∀ {s t}, Access s t → R s t) (a : Word) (s : State) {f : Byte × State → Except Fault State}
    (hf : ∀ v t, s.Reads a v t → Within R t (f (v, t))) : Within R s (memRead a s >>= f) := by
  rcases memRead_cases a s with ⟨v, t, h, e⟩ | ⟨off, _, e⟩
  · rw [e, ok_bind]
    have ht := hR h.access
    have hft := hf v t h
    exact ⟨fun u h => trans ht (hft.1 u h), fun e h => let ⟨k, u, e', hu⟩ := hft.2 e h; ⟨k, u, e', trans ht hu⟩⟩
  · rw [e, error_bind]
    exact Within.raise (.cartridgeOutOfRange off) (hR (.refl s))

/-! ## Writes -/

theorem access_store (s : State) (k : Nat) (v : Byte) (hk : isStorageKey k = true) (hl : k ≠ Port.LY) :
    Access s (s.store k v) :=
  ⟨⟨rfl, rfl, rfl, rfl, rfl, rfl, rfl, rfl⟩,
    { Keeps.refl s with
      ly := State.load_store_ne s v (Ne.symm hl)
      mem := fun h => Memory.wf_write k v h
      memKeys := fun h c hc => (Memory.mem_write hc).elim (fun e => e ▸ hk) (h c) }⟩

theorem access_writeBankRegs (s : State) (a : Word) (v : Byte) : Access s (writeBankRegs s a v) := by
  unfold writeBankRegs
  split_ifs <;> exact ⟨⟨rfl, rfl, rfl, rfl, rfl, rfl, rfl, rfl⟩, { Keeps.refl s with }⟩

theorem within_writeCartRam (s : State) (a : Word) (v : Byte) : Within Access s (writeCartRam s a v) := by
  unfold writeCartRam
  split
  · exact .ok (.refl s)
  · next size hs =>
    split_ifs with h1 h2
    · refine .ok ⟨⟨rfl, rfl, rfl, rfl, rfl, rfl, rfl, rfl⟩, { Keeps.refl s with
        cartRam := fun h => Memory.wf_write _ v h
        bufKeys := fun h c hc => (Memory.mem_write hc).elim (fun e => ?_) (h c) }⟩
      subst e
      simpa [hs] using h2
    · exact .raise _ (.refl s)
    · exact .ok (.refl s)

theorem within_dmaCopy (v : Byte) (l : List Nat) (hl : ∀ i ∈ l, i < 160) (s : State) : Within Access s (dmaCopy v l s) := by
  induction l generalizing s with
  | nil => exact .ok (.refl s)
  | cons i l ih =>
    have hi : i < 160 := hl i List.mem_cons_self
    unfold dmaCopy
    rcases memRead_cases (pair v 0 + BitVec.ofNat 16 i) s with ⟨b, t, h, e⟩ | ⟨off, _, e⟩
    · rw [e]
      have hst : Access s (t.store (0xFE00 + i) b) := h.access.trans (access_store t _ b
        (isStorageKey_eq_true.2 (by omega)) (by show 0xFE00 + i ≠ 0xFF44; omega))
      have := ih (fun j hj => hl j (List.mem_cons_of_mem _ hj)) (t.store (0xFE00 + i) b)
      exact ⟨fun u hu => hst.trans (this.1 u hu), fun f hf =>
        let ⟨k, u, e', hu⟩ := this.2 f hf; ⟨k, u, e', hst.trans hu⟩⟩
    · rw [e]
      exact Within.raise (.cartridgeOutOfRange off) (.refl s)

theorem within_writeIo (s : State) (a : Word) (v : Byte) (ha : region a = .io) : Within Access s (writeIo s a v) := by
  have hio := bounds_of_region ha
  simp only [Region.bounds] at hio
  have key : ∀ k, 0xFF00 ≤ k → k ≤ 0xFFFF → isStorageKey k = true := fun k h1 h2 =>
    isStorageKey_eq_true.2 (.inr (.inr (.inr ⟨h1, h2⟩)))
  have hsc := access_store s Port.SC v (key _ (by decide) (by decide)) (by decide)
  have hdiv := access_store s Port.DIV 0 (key _ (by decide) (by decide)) (by decide)
  have hboot := access_store s Port.BOOT v (key _ (by decide) (by decide)) (by decide)
  unfold writeIo
  split
  · refine .ok (hsc.trans ?_)
    generalize s.store Port.SC v = u
    split
    · exact ⟨⟨rfl, rfl, rfl, rfl, rfl, rfl, rfl, rfl⟩, { Keeps.refl u with serialLog := List.prefix_append _ _ }⟩
    · exact .refl u
  split
  · refine .ok (hdiv.trans ?_)
    generalize s.store Port.DIV 0 = u
    split
    · next hp => exact ⟨⟨rfl, rfl, rfl, rfl, rfl, rfl, rfl, rfl⟩, { Keeps.refl u with timer := .inr ⟨hp, rfl⟩ }⟩
    · exact .refl u
  split
  · exact .raise _ (.refl s)
  next hly =>
  split
  · exact within_dmaCopy v _ (fun i hi => List.mem_range.1 hi) s
  split
  · refine .ok (hboot.trans ?_)
    generalize s.store Port.BOOT v = u
    split
    · exact .refl u
    · exact ⟨⟨rfl, rfl, rfl, rfl, rfl, rfl, rfl, rfl⟩, { Keeps.refl u with booting := fun h => nomatch h }⟩
  · exact .ok (access_store s _ v (key _ hio.1 (by omega)) hly)

/-- One lemma for everything a processor write can change. -/
theorem within_memWrite (a : Word) (v : Byte) (s : State) : Within Access s (memWrite a v s) := by
  have hkey := isStorageKey_storageKey (a := a)
  unfold memWrite
  cases hr : region a <;> simp only [hr] at hkey ⊢
  case fixedRom => exact .ok (access_writeBankRegs s a v)
  case bankedRom => exact .ok (access_writeBankRegs s a v)
  case cartRam => exact within_writeCartRam s a v
  case unusable => exact .ok (.refl s)
  case io => exact within_writeIo s a v hr
  case wram => exact .ok (access_store s _ v (hkey trivial).1 (hkey trivial).2)
  case echo => exact .ok (access_store s _ v (hkey trivial).1 (hkey trivial).2)
  all_goals rw [storageKey_eq (by rw [hr]; decide)] at hkey
  case vram => split_ifs; exacts [.ok (access_store s _ v (hkey trivial).1 (hkey trivial).2), .ok (.refl s)]
  case oam => split_ifs; exacts [.ok (access_store s _ v (hkey trivial).1 (hkey trivial).2), .ok (.refl s)]
  all_goals exact .ok (access_store s _ v (hkey trivial).1 (hkey trivial).2)

theorem access_of_memWrite {a : Word} {v : Byte} {s t : State} (h : memWrite a v s = .ok t) : Access s t :=
  (within_memWrite a v s).1 t h

end Sys2Proof.Machine
end

