-- ==== Sys2Proof/Laws/Bits.lean ====
section
/-! SUPPORT. The bits of a byte after each bit operation. -/

namespace Sys2Proof

theorem byte_ext {a b : Byte} (h : ∀ i < 8, bit a i = bit b i) : a = b := BitVec.eq_of_getLsbD_eq h

theorem bit_eq_false {v : Byte} {i : Nat} (h : 8 ≤ i) : bit v i = false := BitVec.getLsbD_of_ge _ _ h

@[simp] theorem bit_or (a b : Byte) (i : Nat) : bit (a ||| b) i = (bit a i || bit b i) := BitVec.getLsbD_or

@[simp] theorem bit_and (a b : Byte) (i : Nat) : bit (a &&& b) i = (bit a i && bit b i) := BitVec.getLsbD_and

theorem bit_bitMask {i : Nat} (hi : i < 8) (j : Nat) : bit (bitMask i) j = decide (j = i) := by
  simp only [bit, bitMask, BitVec.getLsbD_shiftLeft, BitVec.getLsbD_one]
  by_cases h : j = i
  · subst h; simp [hi]
  · simp only [h, decide_false]
    by_cases h2 : j < i
    · simp [h2]
    · by_cases h1 : j < 8
      · simp [h1, h2]
        omega
      · simp [h1]

theorem bit_mask0 (i : Nat) : bit 0x01 i = decide (i = 0) := bit_bitMask (i := 0) (by decide) i

theorem bit_mask1 (i : Nat) : bit 0x02 i = decide (i = 1) := bit_bitMask (i := 1) (by decide) i

theorem bit_mask2 (i : Nat) : bit 0x04 i = decide (i = 2) := bit_bitMask (i := 2) (by decide) i

theorem bit_setBit (v : Byte) {i : Nat} (hi : i < 8) (j : Nat) : bit (setBit v i) j = (bit v j || decide (j = i)) := by
  rw [← bit_bitMask hi]
  exact BitVec.getLsbD_or

theorem bit_clearBit (v : Byte) {i : Nat} (hi : i < 8) (j : Nat) : bit (clearBit v i) j = (bit v j && decide (j ≠ i)) := by
  by_cases hj : j < 8
  · have := bit_bitMask hi j
    simp only [bit, clearBit, BitVec.getLsbD_and, BitVec.getLsbD_not, hj, decide_true, Bool.true_and] at this ⊢
    simp [this]
  · simp [bit, BitVec.getLsbD_of_ge _ j (by omega : 8 ≤ j)]

end Sys2Proof
end

