-- ==== Sys2Proof/Laws/Devices.lean ====
section
/-! SUPPORT. What the counter's and the display controller's advances can change, said once: `Advances`, a reflexive and
transitive relation; and the lemmas of each part of the two advances. -/

namespace Sys2Proof.Machine

/-- The ports the devices write: DIV and TIMA, LY and STAT, IF. -/
def devicePort (k : Nat) : Bool :=
  decide (k = Port.DIV) || decide (k = Port.TIMA) || decide (k = Port.LY) || decide (k = Port.STAT) || decide (k = Port.IF)

/-- What a device's advance can change: its own state, the gates and the frame, and five bytes of the I/O block; of IF, bits 2
to 0 only (R331, R346). -/
structure Advances (s t : State) : Prop where
  same    : t = { s with mem := t.mem, timer := t.timer, display := t.display, frame := t.frame,
                         vramGate := t.vramGate, oamGate := t.oamGate }
  load    : ∀ k, devicePort k = false → t.load k = s.load k
  ifHigh  : ∀ i, 3 ≤ i → bit (t.load Port.IF) i = bit (s.load Port.IF) i
  mem     : s.mem.wf .bus → t.mem.wf .bus
  memKeys : (∀ c ∈ s.mem, isStorageKey c.1 = true) → ∀ c ∈ t.mem, isStorageKey c.1 = true

theorem Advances.refl (s : State) : Advances s s := ⟨rfl, fun _ _ => rfl, fun _ _ => rfl, id, id⟩

theorem Advances.trans {s t u : State} (h : Advances s t) (k : Advances t u) : Advances s u where
  same := by rw [k.same, h.same]
  load := fun i hi => (k.load i hi).trans (h.load i hi)
  ifHigh := fun i hi => (k.ifHigh i hi).trans (h.ifHigh i hi)
  mem := fun x => k.mem (h.mem x)
  memKeys := fun x => k.memKeys (h.memKeys x)

theorem advances_store (s : State) (k : Nat) (v : Byte) (hk : isStorageKey k = true) (hd : devicePort k = true)
    (hi : k = Port.IF → ∀ i, 3 ≤ i → bit v i = bit (s.load Port.IF) i) : Advances s (s.store k v) where
  same := rfl
  load := fun j hj => State.load_store_ne s v fun e => by rw [e, hd] at hj; cases hj
  ifHigh := fun i h3 => by
    rw [State.load_store]
    split
    · next e => exact hi e.symm i h3
    · rfl
  mem := fun h => Memory.wf_write k v h
  memKeys := fun h c hc => (Memory.mem_write hc).elim (fun e => e ▸ hk) (h c)

/-! ## The periodic counter (R341, R342) -/

/-- What the counter's advance can change: DIV, TIMA, bit 2 of IF, and its accumulators. -/
structure Counts (s t : State) : Prop where
  same    : t = { s with mem := t.mem, timer := t.timer }
  load    : ∀ k, k ≠ Port.DIV → k ≠ Port.TIMA → k ≠ Port.IF → t.load k = s.load k
  ifBits  : ∀ i, i ≠ 2 → bit (t.load Port.IF) i = bit (s.load Port.IF) i
  ifTimer : bit (s.load Port.IF) 2 = true → bit (t.load Port.IF) 2 = true
  mem     : s.mem.wf .bus → t.mem.wf .bus
  memKeys : (∀ c ∈ s.mem, isStorageKey c.1 = true) → ∀ c ∈ t.mem, isStorageKey c.1 = true

theorem Counts.refl (s : State) : Counts s s := ⟨rfl, fun _ _ _ _ => rfl, fun _ _ => rfl, id, id, id⟩

theorem Counts.trans {s t u : State} (h : Counts s t) (k : Counts t u) : Counts s u where
  same := by rw [k.same, h.same]
  load := fun i h1 h2 h3 => (k.load i h1 h2 h3).trans (h.load i h1 h2 h3)
  ifBits := fun i hi => (k.ifBits i hi).trans (h.ifBits i hi)
  ifTimer := fun x => k.ifTimer (h.ifTimer x)
  mem := fun x => k.mem (h.mem x)
  memKeys := fun x => k.memKeys (h.memKeys x)

theorem counts_timer (s : State) (a : Timer) : Counts s { s with timer := a } :=
  ⟨rfl, fun _ _ _ _ => rfl, fun _ _ => rfl, id, id, id⟩

theorem counts_store (s : State) {k : Nat} (v : Byte) (h : k = Port.DIV ∨ k = Port.TIMA) : Counts s (s.store k v) where
  same := rfl
  load := fun j h1 h2 _ => State.load_store_ne s v (by rcases h with rfl | rfl <;> assumption)
  ifBits := fun i _ => by rw [State.load_store_ne s v (by rcases h with rfl | rfl <;> decide)]
  ifTimer := fun x => by rwa [State.load_store_ne s v (by rcases h with rfl | rfl <;> decide)]
  mem := fun x => Memory.wf_write k v x
  memKeys := fun x c hc => (Memory.mem_write hc).elim (fun e => by rw [e]; rcases h with rfl | rfl <;> rfl) (x c)

theorem counts_request (s : State) : Counts s (s.store Port.IF (s.load Port.IF ||| 0x04)) where
  same := rfl
  load := fun j _ _ h => State.load_store_ne s _ h
  ifBits := fun i hi => by
    rw [State.load_store_same, bit_or, bit_mask2]
    simp [hi]
  ifTimer := fun x => by rw [State.load_store_same, bit_or, x]; rfl
  mem := fun x => Memory.wf_write _ _ x
  memKeys := fun x c hc => (Memory.mem_write hc).elim (fun e => by rw [e]; rfl) (x c)

theorem counts_divLoop (n : Nat) (s : State) : Counts s (divLoop n s) := by
  induction n generalizing s with
  | zero => exact .refl s
  | succ n ih =>
    unfold divLoop
    split
    · exact ((counts_timer s _).trans (counts_store _ _ (.inl rfl))).trans (ih _)
    · exact .refl s

theorem counts_divAdvance (c : Nat) (s : State) : Counts s (divAdvance c s) :=
  (counts_timer s _).trans (counts_divLoop _ _)

theorem counts_timaIncrement (s : State) : Counts s (timaIncrement s) := by
  unfold timaIncrement
  split
  · exact (counts_store s _ (.inr rfl)).trans (counts_request _)
  · exact counts_store s _ (.inr rfl)

theorem counts_timaLoop (d n : Nat) (s : State) : Counts s (timaLoop d n s) := by
  induction n generalizing s with
  | zero => exact .refl s
  | succ n ih =>
    unfold timaLoop
    split
    · exact ((counts_timer s _).trans (counts_timaIncrement _)).trans (ih _)
    · exact .refl s

theorem counts_timaAdvance (c : Nat) (s : State) : Counts s (timaAdvance c s) := by
  unfold timaAdvance
  dsimp only
  split
  · exact (counts_timer s _).trans (counts_timaLoop _ _ _)
  · exact .refl s

/-- One lemma for everything the counter's advance can change. -/
theorem counts_timerAdvance (c : Nat) (s : State) : Counts s (timerAdvance c s) :=
  (counts_divAdvance c s).trans (counts_timaAdvance c _)

@[simp] theorem timaIncrement_timer (s : State) : (timaIncrement s).timer = s.timer := by
  unfold timaIncrement
  split <;> rfl

theorem timaLoop_divAcc (d n : Nat) (s : State) : (timaLoop d n s).timer.divAcc = s.timer.divAcc := by
  induction n generalizing s with
  | zero => rfl
  | succ n ih =>
    unfold timaLoop
    split
    · rw [ih]; simp [timaTick]
    · rfl

theorem timaAdvance_divAcc (c : Nat) (s : State) : (timaAdvance c s).timer.divAcc = s.timer.divAcc := by
  unfold timaAdvance
  dsimp only
  split
  · rw [timaLoop_divAcc]
  · rfl

/-- The divider's loop runs until its accumulator is below 256. -/
theorem divLoop_divAcc_lt (n : Nat) (s : State) (h : s.timer.divAcc ≤ n) : (divLoop n s).timer.divAcc < 256 := by
  induction n generalizing s with
  | zero => show s.timer.divAcc < 256; omega
  | succ n ih =>
    unfold divLoop
    split
    · exact ih _ (by show s.timer.divAcc - 256 ≤ n; omega)
    · omega

theorem timerAdvance_divAcc_lt (c : Nat) (s : State) : (timerAdvance c s).timer.divAcc < 256 := by
  unfold timerAdvance
  rw [timaAdvance_divAcc]
  exact divLoop_divAcc_lt _ _ (Nat.le_refl _)

/-! ## The display controller (R350 to R361) -/

theorem advances_display (s : State) (d : Display) (f : Frame) (v o : Bool) :
    Advances s { s with display := d, frame := f, vramGate := v, oamGate := o } :=
  ⟨rfl, fun _ _ => rfl, fun _ _ => rfl, id, id⟩

theorem advances_requestVblank (s : State) : Advances s (requestVblank s) :=
  (advances_store s Port.IF _ rfl rfl fun _ i hi => by
    rw [bit_or, bit_mask0]; simp; omega).trans
    (advances_display _ _ _ _ _)

theorem advances_requestStat (s : State) : Advances s (requestStat s) :=
  (advances_store s Port.IF _ rfl rfl fun _ i hi => by
    rw [bit_or, bit_mask1]; simp; omega).trans
    (advances_display _ _ _ _ _)

theorem advances_requestStatIf (b : Nat) (s : State) : Advances s (requestStatIf b s) := by
  unfold requestStatIf
  split
  · exact advances_requestStat s
  · exact .refl s

theorem bit_high_and {v m : Byte} {j : Nat} (h : ∀ i, j ≤ i → i < 8 → bit m i = true) {i : Nat} (hi : j ≤ i) :
    bit (v &&& m) i = bit v i := by
  by_cases h8 : i < 8
  · rw [bit_and, h i hi h8, Bool.and_true]
  · rw [bit_eq_false (by omega), bit_eq_false (by omega)]

theorem advances_retract (s : State) : Advances s (retract s) := by
  have hand : ∀ (u : State) (m : Byte), (∀ i, 3 ≤ i → i < 8 → bit m i = true) →
      Advances u (u.store Port.IF (u.load Port.IF &&& m)) := fun u m hm =>
    advances_store u Port.IF _ rfl rfl fun _ i hi => bit_high_and hm hi
  have h1 : Advances s (if s.display.setVblank then
      { s.store Port.IF (s.load Port.IF &&& 0xFE) with display := { s.display with setVblank := false } } else s) := by
    split
    · exact (hand s 0xFE (by decide)).trans (advances_display _ _ _ _ _)
    · exact .refl s
  unfold retract
  split
  · exact hand s 0xFC (by decide)
  · dsimp only
    refine h1.trans ?_
    generalize (if s.display.setVblank then
      { s.store Port.IF (s.load Port.IF &&& 0xFE) with display := { s.display with setVblank := false } } else s) = u
    split
    · exact (hand u 0xFD (by decide)).trans (advances_display _ _ _ _ _)
    · exact .refl u

theorem advances_renderLine (ly : Nat) (s : State) : Advances s (renderLine ly s) := by
  unfold renderLine
  split
  · exact advances_display _ _ _ _ _
  · exact .refl s

theorem advances_storeLy (s : State) (v : Byte) : Advances s (s.store Port.LY v) :=
  advances_store s _ v rfl rfl fun h => by cases h

theorem advances_storeStat (s : State) (v : Byte) : Advances s (s.store Port.STAT v) :=
  advances_store s _ v rfl rfl fun h => by cases h

theorem advances_transition (s : State) : Advances s (transition s) := by
  have htake : ∀ (u : State) (m : Mode), Advances u (u.takeThreshold m) := fun u m => advances_display _ _ _ _ _
  have hmode : ∀ (u : State) (m : Mode), Advances u (u.setMode m) := fun u m => advances_display _ _ _ _ _
  unfold transition
  split
  · split
    · exact (htake s _).trans (hmode _ _)
    · exact .refl s
  · split
    · exact (htake s _).trans ((advances_renderLine _ _).trans ((hmode _ _).trans (advances_requestStatIf _ _)))
    · exact .refl s
  · split
    · unfold leaveHBlank
      dsimp only
      refine (htake s .hBlank).trans ((advances_storeLy _ ((s.takeThreshold .hBlank).load Port.LY + 1)).trans ?_)
      split
      · exact (hmode _ _).trans ((advances_requestVblank _).trans
          ((advances_display _ _ _ _ _).trans (advances_requestStatIf _ _)))
      · exact (hmode _ _).trans (advances_requestStatIf _ _)
    · exact .refl s
  · split
    · exact (htake s _).trans ((advances_storeLy _ _).trans ((hmode _ _).trans (advances_requestStatIf _ _)))
    · exact advances_storeLy _ _

theorem advances_compareLY (s : State) : Advances s (compareLY s) := by
  unfold compareLY
  split
  · dsimp only
    split
    · exact (advances_storeStat _ _).trans (advances_requestStat _)
    · exact advances_storeStat _ _
  · exact advances_storeStat _ _

theorem advances_displayRun (c : Nat) (s : State) : Advances s (displayRun c s) := by
  have h1 : Advances s (displayReenable s) := by
    unfold displayReenable
    split
    · exact .refl s
    · exact advances_display _ _ _ _ _
  unfold displayRun
  exact h1.trans ((advances_display _ _ _ _ _).trans ((advances_transition _).trans ((advances_storeStat _ _).trans
    ((advances_compareLY _).trans (advances_display _ _ _ _ _)))))

/-- One lemma for everything the display controller's advance can change. -/
theorem advances_displayAdvance (c : Nat) (s : State) : Advances s (displayAdvance c s) := by
  unfold displayAdvance
  dsimp only
  refine (advances_retract s).trans ?_
  split
  · exact advances_displayRun c _
  · unfold displayDisabled
    exact (advances_display _ _ _ _ _).trans ((advances_storeLy _ _).trans ((advances_storeStat _ _).trans
      (advances_display _ _ _ _ _)))

theorem Counts.advances {s t : State} (h : Counts s t) : Advances s t where
  same := by rw [h.same]
  load := fun k hk => by
    simp only [devicePort, Bool.or_eq_false_iff, decide_eq_false_iff_not] at hk
    exact h.load k hk.1.1.1.1 hk.1.1.1.2 hk.2
  ifHigh := fun i hi => h.ifBits i (by omega)
  mem := h.mem
  memKeys := h.memKeys

/-- One lemma for everything the devices' part of a step can change. -/
theorem advances_advance (c : Nat) (s : State) : Advances s (advance c s) :=
  (counts_timerAdvance c s).advances.trans (advances_displayAdvance c _)

end Sys2Proof.Machine
end

