-- ==== Sys2Proof/Laws/Display.lean ====
section
/-! SUPPORT. The display controller's advance part by part: what the retraction, a request, each transition, the mode bits and
the LY comparison leave, each said once over the storage path, so that a statement about an advance is a composition. -/

namespace Sys2Proof.Machine

/-! ## The retraction (R351) -/

/-- Whether a request flag survives the retraction: only where nothing is tracked. -/
def keptRequest (s : State) (flag : Bool) : Bool :=
  match s.params.ifRetract with
  | .always => flag
  | .tracked => false

theorem Display.same_requests (s : State) {a b : Bool} (ha : s.display.setVblank = a) (hb : s.display.setStat = b) :
    { s with display := { s.display with setVblank := a, setStat := b } } = s := by
  subst ha hb
  rfl

/-- Everything the retraction changes: IF, and the two request flags. -/
theorem retract_same (s : State) : retract s = { s with
    mem := (retract s).mem
    display := { s.display with setVblank := keptRequest s s.display.setVblank
                                setStat := keptRequest s s.display.setStat } } := by
  unfold retract keptRequest
  cases s.params.ifRetract
  · dsimp only
    cases h1 : s.display.setVblank <;> cases h2 : s.display.setStat <;>
      simp only [h1, h2, Bool.false_eq_true, if_true, if_false]
    · conv_lhs => rw [← Display.same_requests s h1 h2]
    · rw [← h1]; rfl
    · rw [← h2]; rfl
    · rfl
  · rfl

theorem retract_load (s : State) {k : Nat} (hk : k ≠ Port.IF) : (retract s).load k = s.load k := by
  unfold retract
  cases s.params.ifRetract
  · dsimp only
    cases h1 : s.display.setVblank <;> cases h2 : s.display.setStat <;>
      simp only [h1, h2, Bool.false_eq_true, if_true, if_false]
    · exact State.load_store_ne _ _ hk
    · exact State.load_store_ne _ _ hk
    · exact (State.load_store_ne _ _ hk).trans (State.load_store_ne s _ hk)
  · exact State.load_store_ne _ _ hk

theorem retract_if_always {s : State} (h : s.params.ifRetract = .always) :
    (retract s).load Port.IF = s.load Port.IF &&& 0xFC := by
  unfold retract
  rw [h]
  exact State.load_store_same _ _ _

theorem retract_if_tracked {s : State} (h : s.params.ifRetract = .tracked) {k : Nat} (hk : k < 8) :
    bit ((retract s).load Port.IF) k =
      (bit (s.load Port.IF) k && !(decide (k = 0) && s.display.setVblank) && !(decide (k = 1) && s.display.setStat)) := by
  have e1 : ∀ k < 8, bit 0xFE k = !decide (k = 0) := by decide
  have e2 : ∀ k < 8, bit 0xFD k = !decide (k = 1) := by decide
  unfold retract
  rw [h]
  dsimp only
  cases h1 : s.display.setVblank <;> cases h2 : s.display.setStat <;>
    simp only [h1, h2, Bool.false_eq_true, if_true, if_false]
  · simp
  · show bit (State.load (s.store _ _) _) k = _
    rw [State.load_store_same, bit_and, e2 k hk]; simp
  · show bit (State.load (s.store _ _) _) k = _
    rw [State.load_store_same, bit_and, e1 k hk]; simp
  · show bit (State.load (State.store { (s.store Port.IF (s.load Port.IF &&& 0xFE)) with display := _} _ _) _) k = _
    rw [State.load_store_same, bit_and, e2 k hk]
    show (bit (State.load (s.store _ _) _) k && _) = _
    rw [State.load_store_same, bit_and, e1 k hk]; simp [Bool.and_assoc]

/-! ## The state a transition starts from -/

/-- The state after the retraction and the re-enabling, with the cycles in the in-mode counter (R350, R353). -/
def beforeTransition (cycles : Nat) (s : State) : State :=
  let s := displayReenable (retract s)
  { s with display := { s.display with modeClock := s.display.modeClock + cycles } }

theorem beforeTransition_same (c : Nat) (s : State) : beforeTransition c s = { s with
    mem := (retract s).mem
    display := { mode := if s.display.enabled then s.display.mode else .spriteSearch
                 modeClock := (if s.display.enabled then s.display.modeClock else 0) + c
                 enabled := true
                 frameComplete := s.display.frameComplete
                 setVblank := keptRequest s s.display.setVblank
                 setStat := keptRequest s s.display.setStat } } := by
  have r := retract_same s
  have hd : (retract s).display = { s.display with setVblank := keptRequest s s.display.setVblank
                                                   setStat := keptRequest s s.display.setStat } := by rw [r]
  unfold beforeTransition displayReenable
  cases h : s.display.enabled
  · have : (retract s).display.enabled = false := by rw [hd]; exact h
    simp only [this, Bool.false_eq_true, if_false]
    rw [r]
  · have : (retract s).display.enabled = true := by rw [hd]; exact h
    simp only [this, if_true]
    rw [r]

@[simp] theorem beforeTransition_load (c : Nat) (s : State) (k : Nat) :
    (beforeTransition c s).load k = (retract s).load k := by
  unfold beforeTransition displayReenable
  dsimp only
  split <;> rfl

/-- The advance of an enabled display, in its parts (R350). -/
theorem displayAdvance_enabled {c : Nat} {s : State} (h : bit (s.load Port.LCDC) 7 = true) :
    displayAdvance c s = applyGates (compareLY (writeModeBits (transition (beforeTransition c s)))) := by
  have hl : bit ((retract s).load Port.LCDC) 7 = true := by rw [retract_load _ (by decide)]; exact h
  unfold displayAdvance
  simp only [hl, if_true]
  rfl

/-- The advance of a disabled display (R352). -/
theorem displayAdvance_disabled {c : Nat} {s : State} (h : bit (s.load Port.LCDC) 7 = false) :
    displayAdvance c s = displayDisabled (retract s) := by
  have hl : bit ((retract s).load Port.LCDC) 7 = false := by rw [retract_load _ (by decide)]; exact h
  unfold displayAdvance
  simp [hl]

theorem displayDisabled_load (s : State) (k : Nat) :
    (displayDisabled s).load k = if k = Port.STAT then s.load Port.STAT &&& 0xFC else if k = Port.LY then 0 else s.load k := by
  show State.load (State.store (State.store { s with display := _ } _ _) _ _) k = _
  simp only [State.load_store]
  simp only [show ¬ (Port.STAT = Port.LY) by decide, if_false]
  rfl

/-! ## The LY comparison, the mode bits and the gates (R359 to R361) -/

/-- Everything the LY comparison changes. `q` is whether it requests. -/
theorem compareLY_spec (w : State) (q : Bool)
    (hq : q = (decide (w.load Port.LY = w.load Port.LYC) && (!w.params.lycGated || bit (w.load Port.STAT) 6))) :
    compareLY w = { w with mem := (compareLY w).mem
                           display := { w.display with setStat := w.display.setStat || q } } ∧
    ∀ k, (compareLY w).load k =
      if k = Port.STAT then putBit (w.load Port.STAT) 2 (decide (w.load Port.LY = w.load Port.LYC))
      else if k = Port.IF then (if q then w.load Port.IF ||| 2 else w.load Port.IF)
      else w.load k := by
  unfold compareLY
  by_cases hm : w.load Port.LY = w.load Port.LYC
  · rw [if_pos hm]
    dsimp only
    have h6 : bit ((w.store Port.STAT (setBit (w.load Port.STAT) 2)).load Port.STAT) 6 = bit (w.load Port.STAT) 6 := by
      rw [State.load_store_same, bit_setBit _ (by decide)]; simp
    rw [h6, State.store_params]
    have hq' : q = (!w.params.lycGated || bit (w.load Port.STAT) 6) := by rw [hq]; simp [hm]
    rw [← hq']
    cases q
    · simp only [Bool.false_eq_true, if_false, Bool.or_false]
      refine ⟨rfl, fun k => ?_⟩
      rw [State.load_store]
      split
      · simp [putBit, hm]
      · split
        · next h => rw [h]
        · rfl
    · simp only [if_true, Bool.or_true]
      refine ⟨rfl, fun k => ?_⟩
      have hr : ∀ (u : State) k, (requestStat u).load k = if k = Port.IF then u.load Port.IF ||| 1 <<< 1 else u.load k :=
        fun u k => State.load_store _ _ _ _
      rw [hr, State.load_store, State.load_store]
      by_cases h1 : k = Port.STAT
      · subst h1; simp [putBit, hm]
      · by_cases h2 : k = Port.IF
        · subst h2; simp
        · simp [h1, h2]
  · rw [if_neg hm]
    have hq' : q = false := by rw [hq]; simp [hm]
    subst hq'
    refine ⟨?_, fun k => ?_⟩
    · simp only [Bool.or_false]; rfl
    rw [State.load_store]
    split
    · simp [putBit, hm]
    · split
      · next h => rw [h]; simp
      · rfl

/-- Everything an advance does after its transition. `q` is whether the LY comparison requests. -/
theorem afterTransition_spec (v t : State) (q : Bool)
    (hq : q = (decide (v.load Port.LY = v.load Port.LYC) && (!v.params.lycGated || bit (v.load Port.STAT) 6)))
    (ht : t = applyGates (compareLY (writeModeBits v))) :
    t = { v with mem := t.mem
                 display := { v.display with setStat := v.display.setStat || q }
                 vramGate := v.display.mode.vramOpen
                 oamGate := v.display.mode.oamOpen } ∧
    ∀ k, t.load k =
      if k = Port.STAT then putBit ((v.load Port.STAT &&& 0xFC) ||| v.display.mode.code) 2
        (decide (v.load Port.LY = v.load Port.LYC))
      else if k = Port.IF then (if q then v.load Port.IF ||| 2 else v.load Port.IF)
      else v.load k := by
  have hw : ∀ k, (writeModeBits v).load k =
      if k = Port.STAT then (v.load Port.STAT &&& 0xFC) ||| v.display.mode.code else v.load k :=
    fun k => State.load_store _ _ _ _
  have hc6 : bit ((v.load Port.STAT &&& 0xFC) ||| v.display.mode.code) 6 = bit (v.load Port.STAT) 6 := by
    rw [bit_or, bit_and, show bit 0xFC 6 = true by decide]
    have : bit v.display.mode.code 6 = false := by cases v.display.mode <;> rfl
    rw [this]; simp
  have l1 : (writeModeBits v).load Port.LY = v.load Port.LY := by rw [hw]; rfl
  have l2 : (writeModeBits v).load Port.LYC = v.load Port.LYC := by rw [hw]; rfl
  have l3 : (writeModeBits v).load Port.STAT = (v.load Port.STAT &&& 0xFC) ||| v.display.mode.code := by rw [hw]; rfl
  have l4 : (writeModeBits v).load Port.IF = v.load Port.IF := by rw [hw]; rfl
  obtain ⟨c1, c2⟩ := compareLY_spec (writeModeBits v) q (by rw [l1, l2, l3, hc6, hq]; rfl)
  subst ht
  constructor
  · conv_lhs => rw [c1]
    rfl
  · intro k
    show (compareLY (writeModeBits v)).load k = _
    rw [c2, l1, l2, l3, l4, hw]
    split <;> rfl

/-- What the byte in STAT holds after an advance: the mode's code, the match bit, and bits 7 to 3 as they were. -/
theorem statByte_bits (m : Mode) (b : Bool) (x : Byte) :
    putBit ((x &&& 0xFC) ||| m.code) 2 b &&& 3 = m.code ∧ bit (putBit ((x &&& 0xFC) ||| m.code) 2 b) 2 = b ∧
    ∀ k, 3 ≤ k → bit (putBit ((x &&& 0xFC) ||| m.code) 2 b) k = bit x k := by
  have hf : ∀ k < 8, 3 ≤ k → bit 0xFC k = true := by decide
  have hmc : ∀ k < 8, 3 ≤ k → bit m.code k = false := by cases m <;> decide
  refine ⟨?_, ?_, fun k hk => ?_⟩
  · clear hf hmc
    revert x
    cases m <;> cases b <;> decide
  · cases b
    · show bit (clearBit _ _) _ = _; rw [bit_clearBit _ (by decide)]; simp
    · show bit (setBit _ _) _ = _; rw [bit_setBit _ (by decide)]; simp
  · by_cases h8 : k < 8
    · have e : bit ((x &&& 0xFC) ||| m.code) k = bit x k := by
        rw [bit_or, bit_and, hmc k h8 hk, hf k h8 hk]; simp
      cases b
      · show bit (clearBit _ _) _ = _; rw [bit_clearBit _ (by decide), e]; simp; omega
      · show bit (setBit _ _) _ = _; rw [bit_setBit _ (by decide), e]; simp; omega
    · rw [bit_eq_false (by omega), bit_eq_false (by omega)]

/-! ## Requests and transitions (R354 to R358) -/

/-- A status request: `q` is whether STAT enables it. -/
theorem requestStatIf_spec (b : Nat) (u : State) (q : Bool) (hq : q = bit (u.load Port.STAT) b) :
    requestStatIf b u = { u with mem := (requestStatIf b u).mem
                                 display := { u.display with setStat := u.display.setStat || q } } ∧
    ∀ k, (requestStatIf b u).load k = if k = Port.IF then u.load Port.IF ||| (if q then 2 else 0) else u.load k := by
  unfold requestStatIf
  rw [← hq]
  cases q
  · simp only [Bool.false_eq_true, if_false, Bool.or_false]
    refine ⟨trivial, fun k => ?_⟩
    split
    · next h => rw [h]; simp
    · rfl
  · simp only [if_true, Bool.or_true]
    exact ⟨rfl, fun k => State.load_store _ _ _ _⟩

@[simp] theorem setMode_load (u : State) (m : Mode) (k : Nat) : (u.setMode m).load k = u.load k := rfl

@[simp] theorem takeThreshold_load (u : State) (m : Mode) (k : Nat) : (u.takeThreshold m).load k = u.load k := rfl

theorem requestVblank_load (u : State) (k : Nat) :
    (requestVblank u).load k = if k = Port.IF then u.load Port.IF ||| 1 else u.load k := State.load_store _ _ _ _

/-- What a transition makes of the state: the mode and the in-mode counter, LY, the frame-complete flag, and whether it
requests V-blank and the status interrupt. -/
structure Transits (u v : State) (mode : Mode) (clock : Nat) (ly : Byte) (complete vblank stat : Bool) : Prop where
  same : v = { u with mem := v.mem
                      frame := v.frame
                      display := { mode := mode
                                   modeClock := clock
                                   enabled := u.display.enabled
                                   frameComplete := complete
                                   setVblank := u.display.setVblank || vblank
                                   setStat := u.display.setStat || stat } }
  ly   : v.load Port.LY = ly
  rest : ∀ k, k ≠ Port.LY → k ≠ Port.IF → v.load k = u.load k
  reqs : v.load Port.IF = (u.load Port.IF ||| (if vblank then 1 else 0)) ||| (if stat then 2 else 0)

theorem Transits.refl (u : State) : Transits u u u.display.mode u.display.modeClock (u.load Port.LY)
    u.display.frameComplete false false :=
  ⟨by simp, rfl, fun _ _ _ => rfl, by simp⟩

theorem transits_leaveSearch (u : State) : Transits u ((u.takeThreshold .spriteSearch).setMode .pixelTransfer)
    .pixelTransfer (u.display.modeClock - 79) (u.load Port.LY) u.display.frameComplete false false where
  same := by simp [State.takeThreshold, State.setMode, Mode.threshold]
  ly := by simp
  rest := fun k _ _ => by simp
  reqs := by simp

/-- Rendering a line changes the frame alone. -/
theorem renderLine_same (ly : Nat) (u : State) : renderLine ly u = { u with frame := (renderLine ly u).frame } := by
  unfold renderLine
  split <;> rfl

theorem transits_leavePixelTransfer (u : State) :
    Transits u (leavePixelTransfer u) .hBlank (u.display.modeClock - 172) (u.load Port.LY) u.display.frameComplete false
      (bit (u.load Port.STAT) 3) ∧
    (leavePixelTransfer u).frame = (renderLine (u.load Port.LY).toNat (u.takeThreshold .pixelTransfer)).frame := by
  unfold leavePixelTransfer
  dsimp only
  rw [takeThreshold_load]
  obtain ⟨f, hf⟩ : ∃ f, f = (renderLine (u.load Port.LY).toNat (u.takeThreshold .pixelTransfer)).frame := ⟨_, rfl⟩
  rw [renderLine_same, ← hf]
  obtain ⟨x, hx⟩ : ∃ x, x = State.setMode { u.takeThreshold .pixelTransfer with frame := f } .hBlank := ⟨_, rfl⟩
  have hl : ∀ k, x.load k = u.load k := fun k => by rw [hx]; simp only [State.load, State.setMode, State.takeThreshold]
  rw [← hx]
  obtain ⟨a, c⟩ := requestStatIf_spec 3 x (bit (u.load Port.STAT) 3) (by rw [hl])
  generalize requestStatIf 3 x = v at a c ⊢
  refine ⟨⟨?_, ?_, ?_, ?_⟩, ?_⟩
  · rw [a, hx]
    simp [State.takeThreshold, State.setMode, Mode.threshold]
  · rw [c, if_neg (by decide), hl]
  · intro k h1 h2; rw [c, if_neg h2, hl]
  · rw [c, if_pos rfl, hl]; simp
  · rw [a, hx]; rfl

/-- A mode entered with LY written and a status request. -/
theorem transits_enter (u : State) (m m' : Mode) (ly : Byte) (b : Nat) :
    Transits u (requestStatIf b (((u.takeThreshold m).store Port.LY ly).setMode m')) m'
      (u.display.modeClock - m.threshold) ly u.display.frameComplete false (bit (u.load Port.STAT) b) := by
  have hl : ∀ k, (((u.takeThreshold m).store Port.LY ly).setMode m').load k = if k = Port.LY then ly else u.load k :=
    fun k => by rw [setMode_load, State.load_store, takeThreshold_load]
  obtain ⟨a, c⟩ := requestStatIf_spec b (((u.takeThreshold m).store Port.LY ly).setMode m')
    (bit (u.load Port.STAT) b) (by rw [hl, if_neg (by decide)])
  generalize requestStatIf b (((u.takeThreshold m).store Port.LY ly).setMode m') = v at a c ⊢
  refine ⟨?_, ?_, ?_, ?_⟩
  · rw [a]
    simp [State.takeThreshold, State.setMode]
  · rw [c, if_neg (by decide), hl, if_pos rfl]
  · intro k h1 h2; rw [c, if_neg h2, hl, if_neg h1]
  · rw [c, if_pos rfl, hl, if_neg (by decide)]; simp

theorem transits_leaveVBlank (u : State) : Transits u (leaveVBlank u) .spriteSearch
    (u.display.modeClock - Mode.threshold .vBlank) 0 u.display.frameComplete false (bit (u.load Port.STAT) 5) :=
  transits_enter u .vBlank .spriteSearch 0 5

theorem transits_leaveHBlank_search {u : State} (h : u.load Port.LY + 1 ≠ 144) : Transits u (leaveHBlank u) .spriteSearch
    (u.display.modeClock - Mode.threshold .hBlank) (u.load Port.LY + 1) u.display.frameComplete false
    (bit (u.load Port.STAT) 5) := by
  have e : leaveHBlank u =
      requestStatIf 5 (((u.takeThreshold .hBlank).store Port.LY (u.load Port.LY + 1)).setMode .spriteSearch) := by
    unfold leaveHBlank
    dsimp only
    rw [takeThreshold_load, if_neg h]
  rw [e]
  exact transits_enter u .hBlank .spriteSearch _ 5

theorem transits_leaveHBlank_vBlank {u : State} (h : u.load Port.LY + 1 = 144) : Transits u (leaveHBlank u) .vBlank
    (u.display.modeClock - Mode.threshold .hBlank) 144 true true (bit (u.load Port.STAT) 4) := by
  obtain ⟨x, hx⟩ : ∃ x, x = requestVblank (((u.takeThreshold .hBlank).store Port.LY 144).setMode .vBlank) := ⟨_, rfl⟩
  have e : leaveHBlank u = requestStatIf 4 { x with display := { x.display with frameComplete := true } } := by
    unfold leaveHBlank
    dsimp only
    rw [takeThreshold_load, h, if_pos rfl, ← hx]
  have hl : ∀ k, x.load k = if k = Port.IF then u.load Port.IF ||| 1 else if k = Port.LY then 144 else u.load k := by
    intro k
    rw [hx, requestVblank_load]
    simp only [setMode_load, State.load_store, takeThreshold_load]
    rw [if_neg (show ¬ Port.IF = Port.LY by decide)]
  have hw : ∀ k, State.load { x with display := { x.display with frameComplete := true } } k = x.load k := fun k => by
    simp only [State.load]
  obtain ⟨a, c⟩ := requestStatIf_spec 4 { x with display := { x.display with frameComplete := true } }
    (bit (u.load Port.STAT) 4) (by rw [hw, hl, if_neg (by decide), if_neg (by decide)])
  rw [e]
  generalize requestStatIf 4 { x with display := { x.display with frameComplete := true } } = v at a c ⊢
  refine ⟨?_, ?_, ?_, ?_⟩
  · rw [a, hx]
    simp [State.takeThreshold, State.setMode, requestVblank]
  · rw [c, if_neg (by decide), hw, hl, if_neg (by decide), if_pos rfl]
  · intro k h1 h2; rw [c, if_neg h2, hw, hl, if_neg h2, if_neg h1]
  · rw [c, if_pos rfl, hw, hl, if_pos rfl]; simp

theorem transits_vBlankLine (u : State) : Transits u (u.store Port.LY (vBlankLine u.display.modeClock)) u.display.mode
    u.display.modeClock (vBlankLine u.display.modeClock) u.display.frameComplete false false :=
  ⟨by simp [State.store], State.load_store_same _ _ _, fun k h1 _ => State.load_store_ne _ _ h1,
    by rw [State.load_store_ne _ _ (by decide)]; simp⟩

/-- Every transition, taken or not, is one of these changes. -/
theorem transits_transition (u : State) :
    ∃ mode clock ly complete vblank stat, Transits u (transition u) mode clock ly complete vblank stat := by
  unfold transition
  split
  · split
    · exact ⟨_, _, _, _, _, _, transits_leaveSearch u⟩
    · exact ⟨_, _, _, _, _, _, .refl u⟩
  · split
    · exact ⟨_, _, _, _, _, _, (transits_leavePixelTransfer u).1⟩
    · exact ⟨_, _, _, _, _, _, .refl u⟩
  · split
    · by_cases h : u.load Port.LY + 1 = 144
      · exact ⟨_, _, _, _, _, _, transits_leaveHBlank_vBlank h⟩
      · exact ⟨_, _, _, _, _, _, transits_leaveHBlank_search h⟩
    · exact ⟨_, _, _, _, _, _, .refl u⟩
  · split
    · exact ⟨_, _, _, _, _, _, transits_leaveVBlank u⟩
    · exact ⟨_, _, _, _, _, _, transits_vBlankLine u⟩

/-- Everything outside the display controller is as it was before an advance, whatever its mode (R61, R350). -/
theorem displayAdvance_same (c : Nat) (s : State) :
    displayAdvance c s = { s with mem := (displayAdvance c s).mem
                                  display := (displayAdvance c s).display
                                  vramGate := (displayAdvance c s).vramGate
                                  oamGate := (displayAdvance c s).oamGate
                                  frame := (displayAdvance c s).frame } ∧
    ∀ k, k ≠ Port.LY → k ≠ Port.STAT → k ≠ Port.IF → (displayAdvance c s).load k = s.load k := by
  have key : (displayAdvance c s).timer = s.timer ∧
      ∀ k, k ≠ Port.LY → k ≠ Port.STAT → k ≠ Port.IF → (displayAdvance c s).load k = s.load k := by
    cases hl : bit (s.load Port.LCDC) 7
    · rw [displayAdvance_disabled hl]
      have hr : (retract s).timer = s.timer := by rw [retract_same]
      exact ⟨hr,
        fun k h1 h2 h3 => by rw [displayDisabled_load, if_neg h2, if_neg h1, retract_load _ h3]⟩
    · obtain ⟨mode, clock, ly, complete, vblank, stat, t⟩ := transits_transition (beforeTransition c s)
      obtain ⟨a, b⟩ := afterTransition_spec (transition (beforeTransition c s)) (displayAdvance c s) _ rfl
        (displayAdvance_enabled hl)
      have hb : (beforeTransition c s).timer = s.timer := by rw [beforeTransition_same]
      have ht : (transition (beforeTransition c s)).timer = (beforeTransition c s).timer := by rw [t.same]
      refine ⟨(congrArg State.timer a).trans (ht.trans hb), fun k h1 h2 h3 => ?_⟩
      rw [b, if_neg h2, if_neg h3, t.rest k h1 h3, beforeTransition_load, retract_load _ h3]
  refine ⟨?_, key.2⟩
  conv_lhs => rw [(advances_displayAdvance c s).same, key.1]

end Sys2Proof.Machine
end

