-- ==== Sys2Proof/Laws/Forms.lean ====
section
/-! SUPPORT. From the 511 instructions to their forms: a statement about every instruction is one about every form. -/

namespace Sys2Proof

/-- Every instruction is the instruction of its form. -/
theorem instr_form (i : Instr) : i.form.instr = i := by cases i <;> rfl

/-- Every form is the form of its instruction. -/
theorem form_instr (f : Form) : f.instr.form = f := by
  cases f
  case ldRR d s => cases d <;> cases s <;> rfl
  case alu o x => cases o <;> (cases x with | reg r => cases r <;> rfl | mHL => rfl)
  case rot o x => cases o <;> (cases x with | reg r => cases r <;> rfl | mHL => rfl)
  case bit o x => cases o <;> (cases x with | reg r => cases r <;> rfl | mHL => rfl)
  case res o x => cases o <;> (cases x with | reg r => cases r <;> rfl | mHL => rfl)
  case set o x => cases o <;> (cases x with | reg r => cases r <;> rfl | mHL => rfl)
  case aluI o n => cases o <;> rfl
  case ldRM d => cases d <;> rfl
  case ldMR d => cases d <;> rfl
  case ldRI d n => cases d <;> rfl
  case ldAInd d => cases d <;> rfl
  case ldIndA d => cases d <;> rfl
  case ldRrI d w => cases d <;> rfl
  case push d => cases d <;> rfl
  case pop d => cases d <;> rfl
  case incR d => cases d <;> rfl
  case decR d => cases d <;> rfl
  case addHL d => cases d <;> rfl
  case incRr d => cases d <;> rfl
  case decRr d => cases d <;> rfl
  case jpCC c w => cases c <;> rfl
  case jrCC c w => cases c <;> rfl
  case callCC c w => cases c <;> rfl
  case retCC c => cases c <;> rfl
  case rst t => cases t <;> rfl
  case illegal t => cases t <;> rfl
  all_goals rfl

@[simp] theorem wf_instr (f : Form) : f.instr.wf = f.wf := by simp [Instr.wf, form_instr]

namespace Machine

/-- The shared operation of a form. -/
def Form.meaning (f : Form) (s : State) : Host.Outcome State Fault Refusal :=
  match f with
  | .ldRR d x => opLdRR d x s
  | .ldRM d => opLdRM d s
  | .ldMR x => opLdMR x s
  | .ldRI d n => opLdRI d n s
  | .ldMI n => opLdMI n s
  | .ldAInd p => opLdAInd p s
  | .ldIndA p => opLdIndA p s
  | .ldAAbs w => opLdAAbs w s
  | .ldAbsA w => opLdAbsA w s
  | .ldhAI n => opLdhAI n s
  | .ldhIA n => opLdhIA n s
  | .ldAC => opLdAC s
  | .ldCA => opLdCA s
  | .ldIncA => opStoreAStep 1 s
  | .ldAInc => opLoadAStep 1 s
  | .ldDecA => opStoreAStep (-1) s
  | .ldADec => opLoadAStep (-1) s
  | .ldRrI p w => opLdRrI p w s
  | .ldAbsSP w => opLdAbsSP w s
  | .ldSPHL => opLdSPHL s
  | .push q => opPush q s
  | .pop q => opPop q s
  | .alu o x => opAlu o x s
  | .aluI o n => opAluI o n s
  | .incR d => opIncR d s
  | .incM => opIncM s
  | .decR d => opDecR d s
  | .decM => opDecM s
  | .daa => opDaa s
  | .cpl => opCpl s
  | .scf => opScf s
  | .ccf => opCcf s
  | .addHL p => opAddHL p s
  | .addSPe e => opAddSPe e s
  | .ldHLSPe e => opLdHLSPe e s
  | .incRr p => opIncRr p s
  | .decRr p => opDecRr p s
  | .rlca => opRotateA .rlc s
  | .rrca => opRotateA .rrc s
  | .rla => opRotateA .rl s
  | .rra => opRotateA .rr s
  | .rot o x => opRot o x s
  | .bit k x => opBit k x s
  | .res k x => opRes k x s
  | .set k x => opSet k x s
  | .jp w => opJp w s
  | .jpCC c w => opJpCC c w s
  | .jpHL => opJpHL s
  | .jr e => opJr e s
  | .jrCC c e => opJrCC c e s
  | .call w => opCall w s
  | .callCC c w => opCallCC c w s
  | .ret => opRet s
  | .reti => opReti s
  | .rst t => opRst t s
  | .retCC c => opRetCC c s
  | .nop => opNop s
  | .halt => opHalt s
  | .stop => opStop s
  | .di => opDi s
  | .ei => opEi s
  | .illegal op => opIllegal op.byte s

/-- Executing an instruction is its form's operation. -/
theorem exec_instr (f : Form) (s : State) : exec f.instr s = Form.meaning f s := by
  cases f
  case ldRR d s => cases d <;> cases s <;> rfl
  case alu o x => cases o <;> (cases x with | reg r => cases r <;> rfl | mHL => rfl)
  case rot o x => cases o <;> (cases x with | reg r => cases r <;> rfl | mHL => rfl)
  case bit o x => cases o <;> (cases x with | reg r => cases r <;> rfl | mHL => rfl)
  case res o x => cases o <;> (cases x with | reg r => cases r <;> rfl | mHL => rfl)
  case set o x => cases o <;> (cases x with | reg r => cases r <;> rfl | mHL => rfl)
  case aluI o n => cases o <;> rfl
  case ldRM d => cases d <;> rfl
  case ldMR d => cases d <;> rfl
  case ldRI d n => cases d <;> rfl
  case ldAInd d => cases d <;> rfl
  case ldIndA d => cases d <;> rfl
  case ldRrI d w => cases d <;> rfl
  case push d => cases d <;> rfl
  case pop d => cases d <;> rfl
  case incR d => cases d <;> rfl
  case decR d => cases d <;> rfl
  case addHL d => cases d <;> rfl
  case incRr d => cases d <;> rfl
  case decRr d => cases d <;> rfl
  case jpCC c w => cases c <;> rfl
  case jrCC c w => cases c <;> rfl
  case callCC c w => cases c <;> rfl
  case retCC c => cases c <;> rfl
  case rst t => cases t <;> rfl
  case illegal t => cases t <;> rfl
  all_goals rfl

/-- Executing any instruction is the operation of its form. -/
theorem exec_eq_meaning (i : Instr) (s : State) : exec i s = Form.meaning i.form s := by
  rw [← exec_instr, instr_form]

end Machine
end Sys2Proof
end

