-- ==== Sys2Proof/Laws/Keeps.lean ====
section
/-! SUPPORT. Everything an instruction, an interrupt service and the processor's part of a step can do to the state, said once:
`Keeps` (Laws/Access.lean) holds between the state before and the state after, or the state a fault leaves. -/

namespace Sys2Proof.Machine

/-- An outcome reached by changes that `R` allows, and never a refusal. -/
def Outcome.Within (R : State → State → Prop) (s : State) (o : Host.Outcome State Fault Refusal) : Prop :=
  match o with
  | .next t => R s t
  | .fault f => ∃ (k : FaultKind) (t : State), f = k.toFault (t.stopped k) ∧ R s t
  | .refused _ => False

theorem Keeps.withCost {s t : State} (h : Keeps s t) (c : Nat) : Keeps s { t with cost := c } :=
  h.trans { Keeps.refl t with }

theorem Within.after {s t : State} {r : Except Fault State} (h : Keeps s t) (hr : Within Keeps t r) : Within Keeps s r :=
  ⟨fun u e => h.trans (hr.1 u e), fun f e => let ⟨k, u, e', hu⟩ := hr.2 f e; ⟨k, u, e', h.trans hu⟩⟩

theorem Within.complete {s : State} {r : Except Fault State} (h : Within Keeps s r) (c : Nat) :
    Outcome.Within Keeps s (complete c r) := by
  cases r with
  | ok t => exact (h.1 t rfl).withCost c
  | error f => exact h.2 f rfl

theorem keeps_setR16 (s : State) (p : Reg16) (v : Word) : Keeps s (s.setR16 p v) := by
  cases p <;> exact { Keeps.refl s with }

theorem keeps_setStackPair (s : State) (q : StackPair) (v : Word) : Keeps s (s.setStackPair q v) := by
  cases q <;> exact { Keeps.refl s with }

/-! ## Operations -/

theorem within_memWrite_keeps (a : Word) (v : Byte) (s : State) : Within Keeps s (memWrite a v s) :=
  (within_memWrite a v s).mono fun _ h => h.keeps

theorem within_read_keeps (a : Word) (s : State) {f : Byte × State → Except Fault State}
    (hf : ∀ v t, s.Reads a v t → Within Keeps t (f (v, t))) : Within Keeps s (memRead a s >>= f) :=
  within_read (fun h k => h.trans k) (fun h => h.keeps) a s hf

theorem within_bind_keeps {s : State} {x : Except Fault State} {f : State → Except Fault State} (hx : Within Keeps s x)
    (hf : ∀ t, Keeps s t → Within Keeps t (f t)) : Within Keeps s (x >>= f) :=
  Within.bind (fun h k => h.trans k) hx hf

theorem within_push16 (v : Word) (s : State) : Within Keeps s (push16 v s) := by
  have h1 : Keeps s { s with sp := s.sp - 1 } := { Keeps.refl s with }
  unfold push16
  refine Within.after h1 (within_bind_keeps (within_memWrite_keeps _ _ _) fun t _ => ?_)
  have h2 : Keeps t { t with sp := t.sp - 1 } := { Keeps.refl t with }
  exact Within.after h2 (within_memWrite_keeps _ _ _)

/-- A pop and what follows it. -/
theorem within_pop16 (s : State) {f : Word × State → Except Fault State} (hf : ∀ w t, Within Keeps t (f (w, t))) :
    Within Keeps s (pop16 s >>= f) := by
  unfold pop16
  rcases memRead_cases s.sp s with ⟨l, t, h, e⟩ | ⟨off, _, e⟩
  · simp only [e, ok_bind]
    rcases memRead_cases ({ t with sp := t.sp + 1 } : State).sp { t with sp := t.sp + 1 } with ⟨x, u, h', e'⟩ | ⟨off, _, e'⟩
    · simp only [e', ok_bind, pure_ok]
      have hk : Keeps s { u with sp := u.sp + 1 } :=
        h.access.keeps.trans (({ Keeps.refl t with } : Keeps t { t with sp := t.sp + 1 }).trans
          (h'.access.keeps.trans { Keeps.refl u with }))
      exact ⟨fun v hv => hk.trans ((hf _ _).1 v hv), fun g hg =>
        let ⟨k, v, e, hv⟩ := (hf _ _).2 g hg; ⟨k, v, e, hk.trans hv⟩⟩
    · simp only [e', error_bind]
      exact Within.raise (.cartridgeOutOfRange off) (h.access.keeps.trans { Keeps.refl t with })
  · simp only [e, error_bind]
    exact Within.raise (.cartridgeOutOfRange off) (.refl s)

theorem within_returnFromCall (s : State) : Within Keeps s (returnFromCall s) :=
  within_pop16 s fun _ t => .ok (by exact { Keeps.refl t with })

theorem within_returnFromInterrupt (s : State) : Within Keeps s (returnFromInterrupt s) :=
  within_bind_keeps (within_returnFromCall s) fun t _ => .ok (by exact { Keeps.refl t with })

theorem within_serviceInterrupt (i : InterruptSource) (s : State) : Within Keeps s (serviceInterrupt i s) := by
  have h1 : Keeps s { s.store Port.IF (clearBit (s.load Port.IF) i.index) with ime := false } :=
    (access_store s Port.IF _ rfl (by decide)).keeps.trans { Keeps.refl _ with }
  unfold serviceInterrupt
  exact Within.after h1 (within_bind_keeps (within_push16 _ _) fun t _ => .ok (by exact { Keeps.refl t with }))

theorem within_readOperand (x : Operand8) (s : State) {f : Byte × State → Except Fault State}
    (hf : ∀ v t, s.OperandReads x v t → Within Keeps t (f (v, t))) : Within Keeps s (readOperand x s >>= f) := by
  cases x with
  | reg r => exact hf _ s ⟨rfl, rfl⟩
  | mHL => exact within_read_keeps s.hl s hf

theorem within_writeOperand (x : Operand8) (v : Byte) (s : State) : Within Keeps s (writeOperand x v s) := by
  cases x with
  | reg r => exact .ok { Keeps.refl s with }
  | mHL => exact within_memWrite_keeps _ _ _

/-! ## Instructions -/

theorem keeps_applyAlu (o : AluOp) (v : Byte) (s : State) : Keeps s (applyAlu o v s) := { Keeps.refl s with }

/-- A register-only operation that costs c. -/
theorem within_update (c : Nat) {s t : State} (h : Keeps s t) : Outcome.Within Keeps s (complete c (.ok t)) :=
  (Within.ok h).complete c

theorem within_opPushJump (c : Nat) (w : Word) (s : State) : Outcome.Within Keeps s (opPushJump c w s) :=
  (within_bind_keeps (within_push16 _ s) fun t _ => .ok (by exact { Keeps.refl t with })).complete c

theorem within_opLoadA (c : Nat) (a : Word) (s : State) : Outcome.Within Keeps s (opLoadA c a s) :=
  (within_read_keeps a s fun _ t _ => .ok (by exact { Keeps.refl t with })).complete c

theorem within_opStoreA (c : Nat) (a : Word) (s : State) : Outcome.Within Keeps s (opStoreA c a s) :=
  (within_memWrite_keeps a _ s).complete c

theorem within_meaning (f : Form) (s : State) : Outcome.Within Keeps s (Form.meaning f s) := by
  cases f with
  | ldRM d => exact (within_read_keeps _ s fun _ t _ => .ok (by exact { Keeps.refl t with })).complete 8
  | ldMR x => exact (within_memWrite_keeps _ _ s).complete 8
  | ldMI n => exact (within_memWrite_keeps _ _ s).complete 12
  | ldAInd p => exact within_opLoadA _ _ s
  | ldIndA p => exact within_opStoreA _ _ s
  | ldAAbs w => exact within_opLoadA _ _ s
  | ldAbsA w => exact within_opStoreA _ _ s
  | ldhAI n => exact within_opLoadA _ _ s
  | ldhIA n => exact within_opStoreA _ _ s
  | ldAC => exact within_opLoadA _ _ s
  | ldCA => exact within_opStoreA _ _ s
  | ldIncA => exact (within_bind_keeps (within_memWrite_keeps _ _ s) fun t _ => .ok (by exact { Keeps.refl t with })).complete 8
  | ldDecA => exact (within_bind_keeps (within_memWrite_keeps _ _ s) fun t _ => .ok (by exact { Keeps.refl t with })).complete 8
  | ldAInc => exact (within_read_keeps _ s fun _ t _ => .ok (by exact { Keeps.refl t with })).complete 8
  | ldADec => exact (within_read_keeps _ s fun _ t _ => .ok (by exact { Keeps.refl t with })).complete 8
  | ldRrI p w => exact within_update _ (keeps_setR16 s p w)
  | ldAbsSP w =>
    exact (within_bind_keeps (within_memWrite_keeps _ _ s) fun t _ => within_memWrite_keeps _ _ t).complete 20
  | push q => exact (within_push16 _ s).complete 16
  | pop q => exact (within_pop16 s fun w t => .ok (keeps_setStackPair t q w)).complete 12
  | alu o x => exact (within_readOperand x s fun _ t _ => .ok (keeps_applyAlu o _ t)).complete _
  | incM =>
    exact (within_read_keeps _ s fun _ t _ => within_bind_keeps (within_memWrite_keeps _ _ t) fun u _ =>
      .ok (by exact { Keeps.refl u with })).complete 12
  | decM =>
    exact (within_read_keeps _ s fun _ t _ => within_bind_keeps (within_memWrite_keeps _ _ t) fun u _ =>
      .ok (by exact { Keeps.refl u with })).complete 12
  | incRr p => exact within_update _ (keeps_setR16 s p _)
  | decRr p => exact within_update _ (keeps_setR16 s p _)
  | rot o x =>
    exact (within_readOperand x s fun _ t _ => within_bind_keeps (within_writeOperand x _ t) fun u _ =>
      .ok (by exact { Keeps.refl u with })).complete _
  | bit k x => exact (within_readOperand x s fun _ t _ => .ok (by exact { Keeps.refl t with })).complete _
  | res k x => exact (within_readOperand x s fun _ t _ => within_writeOperand x _ t).complete _
  | set k x => exact (within_readOperand x s fun _ t _ => within_writeOperand x _ t).complete _
  | jpCC c w =>
    show Outcome.Within Keeps s (opJpCC c w s)
    unfold opJpCC
    split
    · exact within_update _ { Keeps.refl s with }
    · exact within_update _ (.refl s)
  | jrCC c e =>
    show Outcome.Within Keeps s (opJrCC c e s)
    unfold opJrCC
    split
    · exact within_update _ { Keeps.refl s with }
    · exact within_update _ (.refl s)
  | call w => exact within_opPushJump _ _ s
  | callCC c w =>
    show Outcome.Within Keeps s (opCallCC c w s)
    unfold opCallCC
    split
    · exact within_opPushJump _ _ s
    · exact within_update _ (.refl s)
  | ret => exact (within_returnFromCall s).complete 16
  | reti => exact (within_returnFromInterrupt s).complete 16
  | rst t => exact within_opPushJump _ _ s
  | retCC c =>
    show Outcome.Within Keeps s (opRetCC c s)
    unfold opRetCC
    split
    · exact (within_returnFromCall s).complete 20
    · exact within_update _ (.refl s)
  | di =>
    show Outcome.Within Keeps s (opDi s)
    unfold opDi
    split
    · exact within_update _ { Keeps.refl s with }
    · next h => exact within_update _ { Keeps.refl s with eiPending := fun p => by rw [h] at p; cases p }
  | ei =>
    show Outcome.Within Keeps s (opEi s)
    unfold opEi
    split
    · exact within_update _ { Keeps.refl s with }
    · next h =>
      split
      · exact within_update _ (.refl s)
      · exact within_update _ { Keeps.refl s with eiPending := fun p => by rw [h] at p; cases p }
  | illegal op => exact (Within.raise _ (.refl s)).complete 0
  | nop => exact within_update _ (.refl s)
  | stop => exact within_update _ (.refl s)
  | _ => exact within_update _ { Keeps.refl s with }

/-- One lemma for everything an instruction can change. -/
theorem within_exec (i : Instr) (s : State) : Outcome.Within Keeps s (exec i s) := by
  rw [exec_eq_meaning]
  exact within_meaning i.form s

/-! ## The fetch -/

/-- A fetched byte, and PC past it. -/
theorem fetch8_of_reads {s t : State} {b : Byte} (h : s.Reads s.pc b t) : fetch8 s = .ok (b, { t with pc := t.pc + 1 }) := by
  simp [fetch8, memRead_of_reads h]

/-- Within, for a result that carries a value. -/
def WithinVal {α : Type} (R : State → State → Prop) (s : State) (r : Except Fault (α × State)) : Prop :=
  (∀ a t, r = .ok (a, t) → R s t) ∧
    ∀ f, r = .error f → ∃ (k : FaultKind) (t : State), f = k.toFault (t.stopped k) ∧ R s t

theorem WithinVal.ok {α : Type} {R : State → State → Prop} {s t : State} (a : α) (h : R s t) : WithinVal R s (.ok (a, t)) :=
  ⟨fun _ _ e => by cases e; exact h, fun _ e => nomatch e⟩

theorem WithinVal.bind {α β : Type} {s : State} {x : Except Fault (α × State)} {f : α × State → Except Fault (β × State)}
    (hx : WithinVal Keeps s x) (hf : ∀ a t, Keeps s t → WithinVal Keeps t (f (a, t))) : WithinVal Keeps s (x >>= f) := by
  cases x with
  | error e => exact ⟨fun _ _ h => (nomatch h), fun e' h => by cases h; exact hx.2 e rfl⟩
  | ok p =>
    obtain ⟨a, t⟩ := p
    have ht := hx.1 a t rfl
    have hft := hf a t ht
    exact ⟨fun b u h => ht.trans (hft.1 b u h), fun e h =>
      let ⟨k, u, e', hu⟩ := hft.2 e h; ⟨k, u, e', ht.trans hu⟩⟩

theorem withinVal_fetch8 (s : State) : WithinVal Keeps s (fetch8 s) := by
  unfold fetch8
  rcases memRead_cases s.pc s with ⟨b, t, h, e⟩ | ⟨off, _, e⟩
  · rw [e]
    exact .ok b (h.access.keeps.trans { Keeps.refl t with })
  · rw [e]
    exact ⟨fun _ _ h => (nomatch h), fun f h => by cases h; exact ⟨.cartridgeOutOfRange off, s, rfl, .refl s⟩⟩

theorem withinVal_fetchInstr (s : State) : WithinVal Keeps s (fetchInstr s) := by
  unfold fetchInstr
  refine (withinVal_fetch8 s).bind fun op t _ => ?_
  refine WithinVal.bind ?_ fun bs u _ => .ok _ (.refl u)
  unfold fetchOperands
  split
  · exact .ok _ (.refl t)
  · exact (withinVal_fetch8 t).bind fun b u _ => .ok _ (.refl u)
  · exact (withinVal_fetch8 t).bind fun b u _ => (withinVal_fetch8 u).bind fun c v _ => .ok _ (.refl v)

/-! ## The processor's part -/

theorem keeps_settleEi (armed : Bool) (s : State) (h : armed = true → s.params.eiDelay = .one) :
    Keeps s (settleEi armed s) := by
  unfold settleEi
  split
  · next hc =>
    have ha : armed = true := by simp only [Bool.and_eq_true] at hc; exact hc.1
    exact { Keeps.refl s with eiPending := fun p => by rw [h ha] at p; cases p }
  · exact .refl s

theorem within_execute (s : State) : Outcome.Within Keeps s (execute s) := by
  unfold execute
  have hf := withinVal_fetchInstr s
  split
  · next f hr => exact hf.2 f hr
  · next i s' hr =>
    have hs' := hf.1 i s' hr
    have he := within_exec i s'
    cases hx : exec i s' with
    | next t =>
      rw [hx] at he
      refine hs'.trans (Keeps.trans he (keeps_settleEi _ t fun ha => ?_))
      rw [Keeps.params he, hs'.params]
      simp only [eiArmed, Bool.and_eq_true, decide_eq_true_eq] at ha
      exact ha.1
    | fault f =>
      rw [hx] at he
      obtain ⟨k, t, e, h⟩ := he
      exact ⟨k, t, e, hs'.trans h⟩
    | refused r =>
      rw [hx] at he
      exact he

/-- One lemma for everything the processor's part of a step can change. -/
theorem within_processorPart (s : State) : Outcome.Within Keeps s (processorPart s) := by
  unfold processorPart
  have hu : Outcome.Within Keeps s (complete 0 (raise (.unspecifiedInterruptState (s.load Port.IF) (s.load Port.IE)) s)) :=
    (Within.raise _ (.refl s)).complete 0
  have hw : Keeps s { s with halted := false } := { Keeps.refl s with }
  dsimp only
  split
  · split
    · exact (within_serviceInterrupt _ s).complete _
    · exact hu
  · split
    · split
      · exact within_update 4 (.refl s)
      · split
        · exact within_update 4 hw
        · split
          · exact hu
          · exact within_update 4 (.refl s)
    · exact within_execute s

end Sys2Proof.Machine
end

