-- ==== Sys2Proof/Laws/Enables.lean ====
section
/-! SUPPORT. What a step's parts do to the master interrupt enable and to a pending EI: nothing, but for EI, DI, RETI, interrupt
service and the end of the execute path (10_state.md R27, 45_system.md R304). -/

namespace Sys2Proof.Machine

/-- The two fields that say whether interrupts are taken. -/
structure SameEnables (s t : State) : Prop where
  ime       : t.ime = s.ime
  eiPending : t.eiPending = s.eiPending

theorem SameEnables.refl (s : State) : SameEnables s s := ⟨rfl, rfl⟩

theorem SameEnables.trans {s t u : State} (h : SameEnables s t) (k : SameEnables t u) : SameEnables s u :=
  ⟨k.ime.trans h.ime, k.eiPending.trans h.eiPending⟩

theorem SameCore.enables {s t : State} (h : SameCore s t) : SameEnables s t := ⟨h.ime, h.eiPending⟩

theorem enables_memRead {s t : State} {a : Word} {v : Byte} (h : memRead a s = .ok (v, t)) : SameEnables s t :=
  (reads_of_memRead h).access.core.enables

theorem enables_memWrite {s t : State} {a : Word} {v : Byte} (h : memWrite a v s = .ok t) : SameEnables s t :=
  (access_of_memWrite h).core.enables

theorem enables_readOperand {s t : State} {x : Operand8} {v : Byte} (h : readOperand x s = .ok (v, t)) : SameEnables s t := by
  cases x with
  | reg r => cases h; exact .refl s
  | mHL => exact enables_memRead h

theorem enables_writeOperand {s t : State} {x : Operand8} {v : Byte} (h : writeOperand x v s = .ok t) : SameEnables s t := by
  cases x with
  | reg r => cases h; exact ⟨rfl, rfl⟩
  | mHL => exact enables_memWrite h

theorem enables_push16 {s t : State} {v : Word} (h : push16 v s = .ok t) : SameEnables s t := by
  obtain ⟨u, h1, h2⟩ := bind_ok h
  have a := enables_memWrite h1
  have b := enables_memWrite h2
  exact ⟨b.ime.trans a.ime, b.eiPending.trans a.eiPending⟩

theorem enables_pop16 {s t : State} {w : Word} (h : pop16 s = .ok (w, t)) : SameEnables s t := by
  obtain ⟨⟨l, u⟩, h1, h2⟩ := bind_ok h
  obtain ⟨⟨x, y⟩, h3, h4⟩ := bind_ok h2
  cases h4
  have a := enables_memRead h1
  have b := enables_memRead h3
  exact ⟨b.ime.trans a.ime, b.eiPending.trans a.eiPending⟩

theorem enables_fetch8 {s t : State} {b : Byte} (h : fetch8 s = .ok (b, t)) : SameEnables s t := by
  obtain ⟨⟨v, u⟩, h1, h2⟩ := bind_ok h
  cases h2
  exact (enables_memRead h1).trans ⟨rfl, rfl⟩

/-- Fetching an instruction changes neither field. -/
theorem enables_fetchInstr {s t : State} {i : Instr} (h : fetchInstr s = .ok (i, t)) : SameEnables s t := by
  obtain ⟨⟨op, u⟩, h1, h2⟩ := bind_ok h
  obtain ⟨⟨bs, w⟩, h3, h4⟩ := bind_ok h2
  cases h4
  refine (enables_fetch8 h1).trans ?_
  unfold fetchOperands at h3
  split at h3
  · cases h3; exact .refl _
  · obtain ⟨⟨b, x⟩, h5, h6⟩ := bind_ok h3
    cases h6
    exact enables_fetch8 h5
  · obtain ⟨⟨b, x⟩, h5, h6⟩ := bind_ok h3
    obtain ⟨⟨c, y⟩, h7, h8⟩ := bind_ok h6
    cases h8
    exact (enables_fetch8 h5).trans (enables_fetch8 h7)

/-- An operation that ran to completion left its state with the cost. -/
theorem complete_next {c : Nat} {r : Except Fault State} {t : State} (h : complete c r = .next t) :
    ∃ u, r = .ok u ∧ t = { u with cost := c } := by
  cases r with
  | ok s => cases h; exact ⟨s, rfl, rfl⟩
  | error f => cases h

theorem enables_complete {s t : State} {c : Nat} {r : Except Fault State} (h : complete c r = .next t)
    (hr : ∀ u, r = .ok u → SameEnables s u) : SameEnables s t := by
  obtain ⟨u, hu, rfl⟩ := complete_next h
  exact (hr u hu).trans ⟨rfl, rfl⟩

theorem enables_pushJump {s t : State} {c : Nat} {w : Word} (h : opPushJump c w s = .next t) : SameEnables s t :=
  enables_complete h fun u hu => by
    obtain ⟨v, h1, h2⟩ := bind_ok hu
    cases h2
    exact (enables_push16 h1).trans ⟨rfl, rfl⟩

theorem enables_returnFromCall {s t : State} (h : returnFromCall s = .ok t) : SameEnables s t := by
  obtain ⟨⟨w, u⟩, h1, h2⟩ := bind_ok h
  cases h2
  exact (enables_pop16 h1).trans ⟨rfl, rfl⟩

theorem enables_loadA {s t : State} {c : Nat} {a : Word} (h : opLoadA c a s = .next t) : SameEnables s t :=
  enables_complete h fun u hu => by
    obtain ⟨⟨v, w⟩, h1, h2⟩ := bind_ok hu
    cases h2
    exact (enables_memRead h1).trans ⟨rfl, rfl⟩

theorem enables_meaning {f : Form} {s t : State} (h : Form.meaning f s = .next t) (h1 : f ≠ .ei) (h2 : f ≠ .di)
    (h3 : f ≠ .reti) : SameEnables s t := by
  cases f with
  | ei => exact absurd rfl h1
  | di => exact absurd rfl h2
  | reti => exact absurd rfl h3
  | illegal op => cases h
  | ldMR x => exact enables_complete h fun u hu => enables_memWrite hu
  | ldMI n => exact enables_complete h fun u hu => enables_memWrite hu
  | ldIndA q => exact enables_complete h fun u hu => enables_memWrite hu
  | ldAbsA w => exact enables_complete h fun u hu => enables_memWrite hu
  | ldhIA n => exact enables_complete h fun u hu => enables_memWrite hu
  | ldCA => exact enables_complete h fun u hu => enables_memWrite hu
  | ldAInd q => exact enables_loadA h
  | ldAAbs w => exact enables_loadA h
  | ldhAI n => exact enables_loadA h
  | ldAC => exact enables_loadA h
  | push q => exact enables_complete h fun u hu => enables_push16 hu
  | call w => exact enables_pushJump h
  | rst r => exact enables_pushJump h
  | ret => exact enables_complete h fun u hu => enables_returnFromCall hu
  | callCC c w =>
    simp only [Form.meaning, opCallCC] at h
    split at h
    · exact enables_pushJump h
    · cases h; exact ⟨rfl, rfl⟩
  | retCC c =>
    simp only [Form.meaning, opRetCC] at h
    split at h
    · exact enables_complete h fun u hu => enables_returnFromCall hu
    · cases h; exact ⟨rfl, rfl⟩
  | jpCC c w =>
    simp only [Form.meaning, opJpCC] at h
    split at h <;> (cases h; exact ⟨rfl, rfl⟩)
  | jrCC c e =>
    simp only [Form.meaning, opJrCC] at h
    split at h <;> (cases h; exact ⟨rfl, rfl⟩)
  | ldAbsSP w =>
    refine enables_complete h fun u hu => ?_
    obtain ⟨v, h4, h5⟩ := bind_ok hu
    exact (enables_memWrite h4).trans (enables_memWrite h5)
  | ldIncA | ldDecA =>
    refine enables_complete h fun u hu => ?_
    obtain ⟨v, h4, h5⟩ := bind_ok hu
    cases h5
    exact (enables_memWrite h4).trans ⟨rfl, rfl⟩
  | ldRM _ | ldAInc | ldADec =>
    refine enables_complete h fun u hu => ?_
    obtain ⟨⟨v, w⟩, h4, h5⟩ := bind_ok hu
    cases h5
    exact (enables_memRead h4).trans ⟨rfl, rfl⟩
  | pop q =>
    refine enables_complete h fun u hu => ?_
    obtain ⟨⟨v, w⟩, h4, h5⟩ := bind_ok hu
    cases h5
    exact (enables_pop16 h4).trans ⟨by simp, by simp⟩
  | alu _ _ | bit _ _ =>
    refine enables_complete h fun u hu => ?_
    obtain ⟨⟨v, w⟩, h4, h5⟩ := bind_ok hu
    cases h5
    exact (enables_readOperand h4).trans ⟨rfl, rfl⟩
  | incM | decM =>
    refine enables_complete h fun u hu => ?_
    obtain ⟨⟨v, w⟩, h4, h5⟩ := bind_ok hu
    obtain ⟨x, h6, h7⟩ := bind_ok h5
    cases h7
    exact (enables_memRead h4).trans ((enables_memWrite h6).trans ⟨rfl, rfl⟩)
  | rot o x =>
    refine enables_complete h fun u hu => ?_
    obtain ⟨⟨v, w⟩, h4, h5⟩ := bind_ok hu
    obtain ⟨y, h6, h7⟩ := bind_ok h5
    cases h7
    exact (enables_readOperand h4).trans ((enables_writeOperand h6).trans ⟨rfl, rfl⟩)
  | res _ _ | set _ _ =>
    refine enables_complete h fun u hu => ?_
    obtain ⟨⟨v, w⟩, h4, h5⟩ := bind_ok hu
    exact (enables_readOperand h4).trans (enables_writeOperand h5)
  | ldRrI _ _ | incRr _ | decRr _ =>
    cases h
    exact ⟨by simp, by simp⟩
  | _ => cases h; exact ⟨rfl, rfl⟩

/-- Only EI, DI and RETI change whether interrupts are taken. -/
theorem exec_enables {i : Instr} {s t : State} (h : exec i s = .next t) :
    i = .ei ∨ i = .di ∨ i = .reti ∨ SameEnables s t := by
  rw [exec_eq_meaning] at h
  by_cases h1 : i.form = .ei
  · left; rw [← instr_form i, h1]; rfl
  by_cases h2 : i.form = .di
  · right; left; rw [← instr_form i, h2]; rfl
  by_cases h3 : i.form = .reti
  · right; right; left; rw [← instr_form i, h3]; rfl
  exact .inr (.inr (.inr (enables_meaning h h1 h2 h3)))

end Sys2Proof.Machine
end

