-- ==== Sys2Proof/Laws/Render.lean ====
section
/-! SUPPORT. The renderer reads video RAM, the sprite table and the display's ports, never IF: a line renders alike in states
that agree on every other byte. -/

namespace Sys2Proof.Machine

theorem tileBase_lt (s : State) (b : Byte) : tileBase s b < 0xA000 := by
  have := b.isLt
  unfold tileBase
  split_ifs <;> omega

theorem mapBase_le (s : State) (b : Nat) : mapBase s b ≤ 0x9C00 := by
  unfold mapBase
  split_ifs <;> omega

/-- Two states that the renderer cannot tell apart. -/
structure RendersAlike (s t : State) : Prop where
  load   : ∀ k, k ≠ Port.IF → t.load k = s.load k
  params : t.params = s.params

namespace RendersAlike

variable {s t : State} (h : RendersAlike s t)
include h

theorem tilePixel {a r c : Nat} (ha : a < 0xA000) (hr : r < 8) : Machine.tilePixel t a r c = Machine.tilePixel s a r c := by
  unfold Machine.tilePixel
  rw [h.load _ (by show a + 2 * r + 1 ≠ 0xFF0F; omega), h.load _ (by show a + 2 * r ≠ 0xFF0F; omega)]

theorem tileBase (b : Byte) : Machine.tileBase t b = Machine.tileBase s b := by
  unfold Machine.tileBase
  rw [h.load _ (by decide)]

theorem mapBase (b : Nat) : Machine.mapBase t b = Machine.mapBase s b := by
  unfold Machine.mapBase
  rw [h.load _ (by decide)]

theorem mapPixel {base v c : Nat} (hb : base ≤ 0x9C00) (hv : v < 256) (hc : c < 256) :
    Machine.mapPixel t base v c = Machine.mapPixel s base v c := by
  unfold Machine.mapPixel
  dsimp only
  rw [h.load (base + v / 8 * 32 + c / 8) (by show _ ≠ 0xFF0F; omega), h.load Port.BGP (by decide), h.tileBase,
    h.tilePixel (tileBase_lt s _) (by omega)]

theorem underPixel {ly x : Nat} (hly : ly < 144) (hx : x < 160) : Machine.underPixel t ly x = Machine.underPixel s ly x := by
  have hw : Machine.windowCovers t ly x = Machine.windowCovers s ly x := by
    unfold Machine.windowCovers
    rw [h.load Port.LCDC (by decide), h.load Port.WY (by decide), h.load Port.WX (by decide), h.params]
  unfold Machine.underPixel Machine.windowPixel Machine.backgroundPixel
  rw [hw, h.load Port.LCDC (by decide), h.load Port.WY (by decide), h.load Port.WX (by decide),
    h.load Port.SCY (by decide), h.load Port.SCX (by decide), h.mapBase, h.mapBase,
    h.mapPixel (mapBase_le s 6) (by omega) (by omega), h.mapPixel (mapBase_le s 3) (by omega) (by omega)]

theorem spriteAt {k : Nat} (hk : k < 40) : Machine.spriteAt t k = Machine.spriteAt s k := by
  unfold Machine.spriteAt
  rw [h.load _ (by show 0xFE00 + 4 * k ≠ 0xFF0F; omega), h.load _ (by show 0xFE00 + 4 * k + 1 ≠ 0xFF0F; omega),
    h.load _ (by show 0xFE00 + 4 * k + 2 ≠ 0xFF0F; omega), h.load _ (by show 0xFE00 + 4 * k + 3 ≠ 0xFF0F; omega)]

theorem spriteHeight : Machine.spriteHeight t = Machine.spriteHeight s := by
  unfold Machine.spriteHeight
  rw [h.load _ (by decide)]

theorem lineSprites (ly : Nat) : Machine.lineSprites t ly = Machine.lineSprites s ly := by
  have hm : (List.range 40).map (Machine.spriteAt t) = (List.range 40).map (Machine.spriteAt s) :=
    List.map_congr_left fun k hk => h.spriteAt (List.mem_range.1 hk)
  unfold Machine.lineSprites
  rw [hm, h.spriteHeight, h.params, h.load _ (by decide)]

end RendersAlike

theorem mem_insertSprite {p q : Sprite} {l : List Sprite} (h : p ∈ insertSprite q l) : p = q ∨ p ∈ l := by
  induction l with
  | nil => simpa [insertSprite] using h
  | cons r l ih =>
    unfold insertSprite at h
    split at h
    · simpa using h
    · rcases List.mem_cons.1 h with rfl | h
      · simp
      · rcases ih h with h | h <;> simp [h]

theorem mem_of_mem_sortSprites {p : Sprite} {l : List Sprite} (h : p ∈ sortSprites l) : p ∈ l := by
  induction l with
  | nil => exact h
  | cons q l ih =>
    rcases mem_insertSprite (l := sortSprites l) h with rfl | h
    · simp
    · exact List.mem_cons_of_mem _ (ih h)

/-- A sprite of a line is an entry of the table whose extent meets it. -/
theorem mem_lineSprites {s : State} {ly : Nat} {p : Sprite} (h : p ∈ lineSprites s ly) :
    ∃ k < 40, p = spriteAt s k ∧ spriteOnLine (spriteHeight s) ly p = true := by
  unfold lineSprites at h
  split at h
  · cases h
  · have h := List.mem_filter.1 (mem_of_mem_sortSprites (List.mem_of_mem_take h))
    obtain ⟨k, hk, rfl⟩ := List.mem_map.1 h.1
    exact ⟨k, List.mem_range.1 hk, rfl, h.2⟩

namespace RendersAlike

variable {s t : State} (h : RendersAlike s t)
include h

theorem spriteIndex {ly x : Nat} {p : Sprite} (hp : p.tile < 256) :
    Machine.spriteIndex t ly x p = Machine.spriteIndex s ly x p := by
  unfold Machine.spriteIndex
  dsimp only
  rw [h.spriteHeight]
  split
  · congr 1
    apply h.tilePixel
    · split_ifs <;> omega
    · omega
  · rfl

theorem spritePixel {ly x : Nat} {under : BitVec 2} {p : Sprite} (hp : p.tile < 256) :
    Machine.spritePixel t ly x under p = Machine.spritePixel s ly x under p := by
  have hpal : t.load (if bit p.attr 4 then Port.OBP1 else Port.OBP0) = s.load (if bit p.attr 4 then Port.OBP1 else Port.OBP0) :=
    h.load _ (by split_ifs <;> decide)
  unfold Machine.spritePixel
  rw [h.spriteIndex hp, hpal]

/-- A column renders alike. -/
theorem columnGrey {ly x : Nat} (hly : ly < 144) (hx : x < 160) : Machine.columnGrey t ly x = Machine.columnGrey s ly x := by
  unfold Machine.columnGrey
  dsimp only
  rw [h.underPixel hly hx, h.lineSprites]
  have hall : ∀ p ∈ Machine.lineSprites s ly, p.tile < 256 := fun p hp => by
    obtain ⟨k, _, rfl, _⟩ := mem_lineSprites hp
    exact (s.load _).isLt
  generalize Machine.lineSprites s ly = l at hall
  induction l with
  | nil => rfl
  | cons p l ih =>
    simp only [List.foldr_cons]
    rw [ih fun q hq => hall q (List.mem_cons_of_mem _ hq), h.spritePixel (hall p List.mem_cons_self)]

end RendersAlike

end Sys2Proof.Machine
end

