-- ==== Sys2Proof/Laws/Reset.lean ====
section
/-! SUPPORT. Reset: `State.reset` is one value of `resetWith`, and what the other arguments leave. -/

namespace Sys2Proof.Machine

/-- The reset state is `resetWith` at the decided parameters, the blank image, no bootstrap image and RAM of zeros (log
entries 1 and 2). -/
theorem resetWith_blank (init : Init) (hr : init.ram = []) (hc : init.cartRam = []) :
    resetWith Config.decided [] 0x8000 none init = some State.reset := by
  simp only [resetWith, hr, hc]
  rfl

/-- A memory and its part that a test on addresses keeps agree where the test holds. -/
theorem Memory.read_filter (st : Store) (m : Memory) (p : Nat → Bool) {k : Nat} (hk : p k = true) :
    Memory.read st (m.filter fun c => p c.1) k = Memory.read st m k := by
  induction m with
  | nil => rfl
  | cons c m ih =>
    obtain ⟨a, v⟩ := c
    by_cases ha : a = k
    · subst ha
      simp [List.filter, hk, Memory.read]
    · cases hp : p a <;> simp [List.filter, hp, Memory.read, ha, ih]

/-- Where the test fails, the part reads as an unlisted address. -/
theorem Memory.read_filter_out (st : Store) (m : Memory) (p : Nat → Bool) {k : Nat} (hk : p k = false) :
    Memory.read st (m.filter fun c => p c.1) k = unlisted st k := by
  induction m with
  | nil => rfl
  | cons c m ih =>
    obtain ⟨a, v⟩ := c
    cases hp : p a
    · simpa [List.filter, hp] using ih
    · have ha : a ≠ k := by
        rintro rfl
        simp [hk] at hp
      simpa [List.filter, hp, Memory.read, ha] using ih

/-- What every machine that `resetWith` builds carries: its parameters and its image. -/
theorem resetWith_arguments {q : Config.Params} {rom : Memory} {size : Nat} {boot : Option Memory} {init : Init} {s : State}
    (h : resetWith q rom size boot init = some s) :
    s.params = q ∧ buildCartridge rom size = some s.cart ∧ s.booting = boot.isSome := by
  unfold resetWith at h
  split at h
  · cases h
  · next cart hc =>
    cases boot <;> (cases h; exact ⟨rfl, hc, rfl⟩)

end Sys2Proof.Machine
end

