-- ==== Sys2Proof/Laws/Write.lean ====
section
/-! SUPPORT. When a processor write completes, the sprite-table copy of a DMA write, and the stack: the lemmas that say of
`dmaCopy`, `memWrite`, `push16` and `pop16` that they run, and what they leave. -/

namespace Sys2Proof.Machine

@[simp] theorem FaultKind.final_toFault (k : FaultKind) (s : State) : (k.toFault s).final = s := by cases k <;> rfl

/-! ## What decides whether an address can be read -/

/-- Whether a read is inside the cartridge depends on the latch, the cartridge and the banks alone. -/
theorem State.Readable.congr {s t : State} {a : Word} (hb : t.booting = s.booting) (hc : t.cart = s.cart)
    (hk : t.bank = s.bank) (h : s.Readable a) : t.Readable a := by
  intro off
  have h := h off
  unfold busView at h ⊢
  cases hr : region a <;> rw [hr] at h <;> dsimp only at h ⊢
  case fixedRom =>
    simp only [cartByte, hc, hb] at h ⊢
    split_ifs at h ⊢ <;> simp_all
  case bankedRom => simpa only [cartByte, romOffset, hc, hk] using h
  case cartRam =>
    have ho : ramOffset t a = ramOffset s a := by simp only [ramOffset, hc, hk]
    simp only [cartRamByte, hc, hk, ho] at h ⊢
    generalize ramOffset s a = o at h ⊢
    cases e : s.cart.ramSize with
    | none => simp
    | some size =>
      simp only [e] at h ⊢
      split_ifs at h ⊢ <;> simp_all
  case io => split_ifs <;> simp
  all_goals simp

/-- After a read every address is as readable as before. -/
theorem State.Reads.readable {s t : State} {a b : Word} {v : Byte} (h : s.Reads a v t) (hb : s.Readable b) :
    t.Readable b := fun off => by rw [h.sameView b]; exact hb off

/-- After a read every write is as safe as before. -/
theorem State.Reads.writable {s t : State} {a b : Word} {v w : Byte} (h : s.Reads a v t) (hw : s.Writable b w) :
    t.Writable b w :=
  ⟨hw.1, fun hr => h.readable (hw.2.1 hr), fun hd i hi => h.readable (hw.2.2 hd i hi)⟩

theorem State.Writable.withSp {s : State} {a : Word} {v : Byte} (sp : Word) (h : s.Writable a v) :
    State.Writable { s with sp := sp } a v := h

theorem State.Reads.withSp {s t : State} {a : Word} {v : Byte} (sp : Word) (h : s.Reads a v t) :
    State.Reads { s with sp := sp } a v { t with sp := sp } := by
  rcases h with ⟨h, rfl⟩ | ⟨h, rfl, rfl⟩
  · exact .inl ⟨h, rfl⟩
  · exact .inr ⟨h, rfl, rfl⟩

@[simp] theorem State.load_withSp (s : State) (sp : Word) (k : Nat) : State.load { s with sp := sp } k = s.load k := rfl

/-! ## The sprite-table copy (R73) -/

/-- What a sprite-table copy leaves: all but the sprite table and the draw count as it was. -/
structure Copies (s t : State) : Prop where
  same : t = { s with mem := t.mem, draws := t.draws }
  load : ∀ k, ¬ (0xFE00 ≤ k ∧ k < 0xFEA0) → t.load k = s.load k

theorem Copies.refl (s : State) : Copies s s := ⟨rfl, fun _ _ => rfl⟩

theorem Copies.trans {s t u : State} (h : Copies s t) (k : Copies t u) : Copies s u :=
  ⟨by rw [k.same, h.same], fun i hi => (k.load i hi).trans (h.load i hi)⟩

theorem Copies.readable {s t : State} {a : Word} (h : Copies s t) (hr : s.Readable a) : t.Readable a :=
  hr.congr (by rw [h.same]) (by rw [h.same]) (by rw [h.same])

theorem Copies.readable_iff {s t : State} {a : Word} (h : Copies s t) : t.Readable a ↔ s.Readable a :=
  ⟨fun hr => hr.congr (by rw [h.same]) (by rw [h.same]) (by rw [h.same]), h.readable⟩

theorem copies_pass {s t : State} {a : Word} {b : Byte} {i : Nat} (hi : i < 160) (h : s.Reads a b t) :
    Copies s (t.store (0xFE00 + i) b) := by
  rcases h with ⟨_, rfl⟩ | ⟨_, _, rfl⟩ <;> exact ⟨rfl, fun k hk => State.load_store_ne _ _ (by omega)⟩

/-- Outside the sprite table a processor read sees the same byte after a copy as before. -/
theorem Copies.view {s t : State} (h : Copies s t) {a : Word} (ho : region a ≠ .oam) : busView t a = busView s a := by
  have e := h.same
  have hl := h.load
  have f1 : t.booting = s.booting := by rw [e]
  have f2 : t.bootRom = s.bootRom := by rw [e]
  have f3 : t.cart = s.cart := by rw [e]
  have f4 : t.bank = s.bank := by rw [e]
  have f5 : t.cartRam = s.cartRam := by rw [e]
  have f6 : t.vramGate = s.vramGate := by rw [e]
  have f7 : t.params = s.params := by rw [e]
  have f8 : t.buttons = s.buttons := by rw [e]
  have hb := region_bounds a
  have hk : region a = .echo → storageKey a = a.toNat - 0x2000 := storageKey_echo
  have hk2 : region a ≠ .echo → storageKey a = a.toNat := storageKey_eq
  unfold busView
  simp only [joypadByte]
  cases hr : region a <;> rw [hr] at hb hk hk2 ho <;> simp only [Region.bounds] at hb <;>
    simp only [f1, f2, f3, f4, f5, f6, f7, f8, cartByte, romOffset, cartRamByte, ramOffset]
  · rw [hl _ (by omega)]
  · rfl
  · rw [hl _ (by rw [hk2 (by decide)]; omega)]
  · rw [hl _ (by rw [hk rfl]; omega)]
  · exact absurd rfl ho
  · rw [hl Port.P1 (by decide), hl a.toNat (by omega)]
  · rw [hl _ (by omega)]
  · rw [hl _ (by omega)]

theorem dmaCopy_append (v : Byte) (l l' : List Nat) (s : State) :
    dmaCopy v (l ++ l') s = (dmaCopy v l s >>= dmaCopy v l') := by
  induction l generalizing s with
  | nil => rfl
  | cons i l ih =>
    simp only [List.cons_append, dmaCopy]
    cases memRead (pair v 0 + BitVec.ofNat 16 i) s with
    | error f => rfl
    | ok p => exact ih _

/-- A copy from readable addresses completes, pass by pass. -/
theorem dmaCopy_passes (s : State) (v : Byte) (hr : ∀ i < 160, s.Readable (pair v 0 + BitVec.ofNat 16 i)) (n : Nat)
    (hn : n ≤ 160) :
    ∃ u : Nat → State, u 0 = s ∧ dmaCopy v (List.range n) s = .ok (u n) ∧ (∀ i ≤ n, Copies s (u i)) ∧
      ∀ i < n, ∃ b w, (u i).Reads (pair v 0 + BitVec.ofNat 16 i) b w ∧ u (i + 1) = w.store (0xFE00 + i) b := by
  induction n with
  | zero => exact ⟨fun _ => s, rfl, rfl, fun _ _ => .refl s, fun _ h => absurd h (by omega)⟩
  | succ n ih =>
    obtain ⟨u, h0, h1, h2, h3⟩ := ih (by omega)
    obtain ⟨b, w, hbw⟩ := readable_iff_reads.1 ((h2 n (Nat.le_refl _)).readable (hr n (by omega)))
    refine ⟨fun i => if i ≤ n then u i else w.store (0xFE00 + n) b, by simpa using h0, ?_, fun i _ => ?_, fun i hi => ?_⟩
    · rw [List.range_succ, dmaCopy_append, h1, ok_bind]
      simp only [dmaCopy, memRead_of_reads hbw]
      simp
    · dsimp only
      split
      · exact h2 i (by omega)
      · exact (h2 n (Nat.le_refl _)).trans (copies_pass (by omega) hbw)
    · dsimp only
      rw [if_pos (by omega)]
      by_cases hin : i < n
      · rw [if_pos (by omega)]
        exact h3 i hin
      · obtain rfl : i = n := by omega
        rw [if_neg (by omega)]
        exact ⟨b, w, hbw, rfl⟩

/-- A copy that completes read readable addresses, and changed the sprite table and the draw count alone. -/
theorem copies_of_dmaCopy {v : Byte} {l : List Nat} (hl : ∀ i ∈ l, i < 160) {s t : State} (h : dmaCopy v l s = .ok t) :
    Copies s t ∧ ∀ i ∈ l, s.Readable (pair v 0 + BitVec.ofNat 16 i) := by
  induction l generalizing s with
  | nil => cases h; exact ⟨.refl _, by simp⟩
  | cons i l ih =>
    unfold dmaCopy at h
    rcases memRead_cases (pair v 0 + BitVec.ofNat 16 i) s with ⟨b, w, hr, e⟩ | ⟨off, _, e⟩
    · rw [e] at h
      have hp := copies_pass (hl i List.mem_cons_self) hr
      obtain ⟨h1, h2⟩ := ih (fun j hj => hl j (List.mem_cons_of_mem _ hj)) h
      refine ⟨hp.trans h1, fun j hj => ?_⟩
      rcases List.mem_cons.1 hj with ej | hj
      · rw [ej]
        exact readable_iff_reads.2 ⟨_, _, hr⟩
      · exact hp.readable_iff.1 (h2 j hj)
    · rw [e] at h
      cases h

/-! ## Writes that complete -/

/-- A safe write completes. -/
theorem memWrite_of_writable {s : State} {a : Word} {v : Byte} (h : s.Writable a v) : ∃ t, memWrite a v s = .ok t := by
  obtain ⟨hly, hram, hdma⟩ := h
  unfold memWrite
  cases hr : region a <;> dsimp only
  case cartRam =>
    have hb := hram hr
    unfold State.Readable busView at hb
    simp only [hr, cartRamByte] at hb
    unfold writeCartRam
    cases e : s.cart.ramSize with
    | none => exact ⟨_, rfl⟩
    | some size =>
      simp only [e] at hb
      dsimp only
      split
      · next he =>
        simp only [he, if_true] at hb
        split
        · exact ⟨_, rfl⟩
        · next hlt => exact absurd (by simp [hlt]) (hb (ramOffset s a))
      · exact ⟨_, rfl⟩
  case io =>
    unfold writeIo
    split
    · exact ⟨_, rfl⟩
    split
    · exact ⟨_, rfl⟩
    split
    · next hd =>
      obtain ⟨u, _, h, _⟩ := dmaCopy_passes s v (hdma hd) 160 (Nat.le_refl _)
      exact ⟨_, h⟩
    split
    · exact ⟨_, rfl⟩
    · exact ⟨_, rfl⟩
  all_goals exact ⟨_, rfl⟩

/-- A write above the bank registers and not of BOOT leaves the banks and the latch, so every address is as readable as
before. -/
theorem readable_of_memWrite {s t : State} {a b : Word} {v : Byte} (h : memWrite a v s = .ok t) (ha : 0x8000 ≤ a.toNat)
    (hboot : a.toNat ≠ Port.BOOT) (hr : s.Readable b) : t.Readable b := by
  have hk := (access_of_memWrite h).keeps.cart
  suffices t.booting = s.booting ∧ t.bank = s.bank from hr.congr this.1 hk this.2
  clear hk hr
  have hb := region_bounds a
  unfold memWrite at h
  cases hra : region a <;> rw [hra] at h hb <;> simp only [Region.bounds] at h hb
  case fixedRom => omega
  case bankedRom => omega
  case cartRam =>
    unfold writeCartRam at h
    split at h
    · cases h; exact ⟨rfl, rfl⟩
    · split_ifs at h <;> cases h <;> exact ⟨rfl, rfl⟩
  case io =>
    unfold writeIo at h
    split at h
    · cases h; split <;> exact ⟨rfl, rfl⟩
    split at h
    · cases h; split <;> exact ⟨rfl, rfl⟩
    split at h
    · cases h
    split at h
    · have e := (copies_of_dmaCopy (fun i hi => List.mem_range.1 hi) h).1.same
      rw [e]
      exact ⟨rfl, rfl⟩
    cases h
    exact ⟨rfl, rfl⟩
  all_goals first
    | (cases h; exact ⟨rfl, rfl⟩)
    | (split at h <;> cases h <;> exact ⟨rfl, rfl⟩)

/-- A write leaves the neighbouring address as safe to write as it was. -/
theorem writable_of_memWrite {s t : State} {a b : Word} {v w : Byte} (hab : b = a + 1 ∨ a = b + 1)
    (h : memWrite a v s = .ok t) (hw : s.Writable b w) : t.Writable b w := by
  have ha := a.isLt
  have hbl := b.isLt
  have hn : (b.toNat = (a.toNat + 1) % 65536) ∨ (a.toNat = (b.toNat + 1) % 65536) := by
    rcases hab with rfl | rfl
    · exact .inl (by rw [BitVec.toNat_add]; rfl)
    · exact .inr (by rw [BitVec.toNat_add]; rfl)
  refine ⟨hw.1, fun hr => ?_, fun hd i hi => ?_⟩
  · have hb := bounds_of_region hr
    simp only [Region.bounds] at hb
    exact readable_of_memWrite h (by omega) (by show a.toNat ≠ 0xFF50; omega) (hw.2.1 hr)
  · have hd' : b.toNat = 0xFF46 := hd
    exact readable_of_memWrite h (by omega) (by show a.toNat ≠ 0xFF50; omega) (hw.2.2 hd i hi)

/-! ## The stack (R150) -/

theorem sub_one_sub_one (x : Word) : x - 1 - 1 = x - 2 := by ring

/-- A push whose two bytes can be written completes: the high byte at SP - 1, then the low byte at SP - 2. -/
theorem push16_of_writable {s : State} {v : Word} (h : s.PushWritable v) : ∃ t u,
    memWrite (s.sp - 1) (hi v) { s with sp := s.sp - 1 } = .ok t ∧
    memWrite (s.sp - 2) (lo v) { t with sp := s.sp - 2 } = .ok u ∧ push16 v s = .ok u := by
  obtain ⟨t, ht⟩ := memWrite_of_writable (h.1.withSp (s.sp - 1))
  have h2 : t.Writable (s.sp - 2) (lo v) := writable_of_memWrite (.inr (by ring)) ht (h.2.withSp _)
  obtain ⟨u, hu⟩ := memWrite_of_writable (h2.withSp (s.sp - 2))
  have hsp : t.sp = s.sp - 1 := (access_of_memWrite ht).core.sp
  exact ⟨t, u, ht, hu, by simp only [push16, ht, ok_bind, hsp, sub_one_sub_one, hu]⟩

/-- A pop whose two bytes can be read gives the word, and leaves SP past it. -/
theorem pop16_of_reads {s t : State} {w : Word} (h : s.ReadsWord s.sp w t) :
    pop16 s = .ok (w, { t with sp := s.sp + 2 }) := by
  obtain ⟨l, h, u, h1, h2, rfl⟩ := h
  have hsp : u.sp = s.sp := h1.access.core.sp
  simp only [pop16, memRead_of_reads h1, ok_bind, hsp]
  simp only [memRead_of_reads (h2.withSp (s.sp + 1)), ok_bind, pure_ok]
  congr 3
  ring

/-- A push that faults leaves PC. -/
theorem push16_error_pc {s : State} {v : Word} {f : Fault} (h : push16 v s = .error f) : f.final.pc = s.pc := by
  unfold push16 at h
  dsimp only at h
  rcases bind_error h with h | ⟨t, h1, h2⟩
  · obtain ⟨k, t, rfl, ha⟩ := (within_memWrite _ _ _).2 f h
    rw [FaultKind.final_toFault]
    exact ha.core.pc
  · obtain ⟨k, u, rfl, ha⟩ := (within_memWrite _ _ _).2 f h2
    rw [FaultKind.final_toFault]
    exact ha.core.pc.trans (access_of_memWrite h1).core.pc

/-! ## Operands -/

/-- Reading an operand that has a value gives it, and changes no register or flag. -/
theorem readOperand_of_reads {s t : State} {x : Operand8} {v : Byte} (h : s.OperandReads x v t) :
    readOperand x s = .ok (v, t) ∧ t.regs = s.regs ∧ t.flags = s.flags := by
  cases x with
  | reg r => obtain ⟨rfl, rfl⟩ := h; exact ⟨rfl, rfl, rfl⟩
  | mHL =>
    have h : s.Reads s.hl v t := h
    exact ⟨memRead_of_reads h, h.access.core.regs, h.access.core.flags⟩

theorem readOperand_outOfRange {s : State} {off : Nat} (h : busView s s.hl = .outOfRange off) :
    readOperand .mHL s = .error (.cartridgeOutOfRange off (s.stopped (.cartridgeOutOfRange off))) :=
  memRead_outOfRange h

theorem State.Reads.hl {s t : State} {a : Word} {v : Byte} (h : s.Reads a v t) : t.hl = s.hl := by
  simp only [State.hl, h.access.core.regs]

/-- The high page, 0xFF00 to 0xFFFF, can always be read (R115). -/
theorem readable_highPage (s : State) (n : Byte) : s.Readable (highPage n) := by
  have hn : (highPage n).toNat = 0xFF00 + n.toNat := by
    unfold highPage
    rw [BitVec.toNat_add]
    have := n.isLt
    simp
    omega
  have hb := region_bounds (highPage n)
  rw [hn] at hb
  have := n.isLt
  intro off
  unfold busView
  cases hr : region (highPage n) <;> rw [hr] at hb <;> simp only [Region.bounds] at hb <;> first | omega | skip
  · dsimp only; split_ifs <;> simp
  · simp
  · simp

end Sys2Proof.Machine
end

