-- ==== Sys2Proof/Tests/Slice0.lean ====
section
/-! SUPPORT. The model's own tests. Expected words come from the encodings of 30_encoding.md and the instruction rules,
expected results from the vectors of 95_test_vectors.md (named in each docstring) or from the examples of the rules. The
last part gives, for every statement with hypotheses, a state and operands that meet them. -/

namespace Sys2Proof.Tests
open Sys2Proof Sys2Proof.Machine

/-! ## Well-formedness: an offset outside -128..127 is refused (R115) -/

theorem test_wf_refuses_jr_128 : (Instr.jr_e8 128).wf = false ∧ (Instr.jr_e8 127).wf = true := by decide
theorem test_wf_refuses_jr_below : (Instr.jr_e8 (-129)).wf = false ∧ (Instr.jr_e8 (-128)).wf = true := by decide
theorem test_wf_refuses_jr_cc : (Instr.jr_NZ_e8 128).wf = false ∧ (Instr.jr_Z_e8 (-129)).wf = false ∧
    (Instr.jr_NC_e8 200).wf = false ∧ (Instr.jr_C_e8 (-200)).wf = false := by decide
theorem test_wf_refuses_add_SP : (Instr.add_SP_e8 128).wf = false ∧ (Instr.add_SP_e8 (-129)).wf = false := by decide
theorem test_wf_refuses_ld_HL_SP : (Instr.ld_HL_SPe8 128).wf = false ∧ (Instr.ld_HL_SPe8 (-129)).wf = false := by decide

/-! ## Decoding: words written out from the encoding lines of the rules -/

/-- R131 `01 yyy zzz`, R132 `01 yyy 110`, R133 `01 110 zzz`, R134 `00 yyy 110`: y = 3 is E, z = 7 is A. -/
theorem test_decode_ld8 : decode .two [0b01011111] = .ok (.ld_E_A, []) ∧ decode .two [0b01011110] = .ok (.ld_E_mHL, []) ∧
    decode .two [0b01110010] = .ok (.ld_mHL_D, []) ∧ decode .two [0b00101110, 0x5A] = .ok (.ld_L_d8 0x5A, []) ∧
    decode .two [0b00110110, 0x5A] = .ok (.ld_mHL_d8 0x5A, []) := ⟨rfl, rfl, rfl, rfl, rfl⟩
/-- R135 to R146. -/
theorem test_decode_ldA : decode .two [0x1A] = .ok (.ld_A_mDE, []) ∧ decode .two [0x02] = .ok (.ld_mBC_A, []) ∧
    decode .two [0xFA, 0x23, 0xC1] = .ok (.ld_A_ma16 0xC123, []) ∧ decode .two [0xF0, 0x44] = .ok (.ldh_A_ma8 0x44, []) ∧
    decode .two [0xE2] = .ok (.ld_mC_A, []) ∧ decode .two [0x3A] = .ok (.ld_A_mHLd, []) := ⟨rfl, rfl, rfl, rfl, rfl, rfl⟩
/-- R147 `00 pp 0001`, R148, R149: p = 2 is HL. -/
theorem test_decode_ld16 : decode .two [0b00100001, 0x34, 0x12] = .ok (.ld_HL_d16 0x1234, []) ∧
    decode .two [0x08, 0x00, 0xC0] = .ok (.ld_ma16_SP 0xC000, []) ∧
      decode .two [0xF9] = .ok (.ld_SP_HL, []) := ⟨rfl, rfl, rfl⟩
/-- R152 `11 pp 0101`, R153 `11 pp 0001`: p = 3 is AF. -/
theorem test_decode_stack : decode .two [0b11110101] = .ok (.push_AF, []) ∧ decode .two [0b11010001] = .ok (.pop_DE, []) ∧
    decode .two [0b11110001] = .ok (.pop_AF, []) := ⟨rfl, rfl, rfl⟩
/-- R170 `10 ooo zzz` and `11 ooo 110`: o = 3 SBC, 5 XOR, 7 CP. -/
theorem test_decode_alu : decode .two [0b10011100] = .ok (.sbc_A_H, []) ∧ decode .two [0b10101110] = .ok (.xor_mHL, []) ∧
    decode .two [0b11111110, 0x40] = .ok (.cp_d8 0x40, []) := ⟨rfl, rfl, rfl⟩
/-- R180 `00 yyy 100`, R182 `00 yyy 101`, R184 to R187. -/
theorem test_decode_inc8 : decode .two [0b00110100] = .ok (.inc_mHL, []) ∧ decode .two [0b00111101] = .ok (.dec_A, []) ∧
    decode .two [0x27] = .ok (.daa, []) ∧ decode .two [0x2F] = .ok (.cpl, []) ∧ decode .two [0x37] = .ok (.scf, []) ∧
    decode .two [0x3F] = .ok (.ccf, []) := ⟨rfl, rfl, rfl, rfl, rfl, rfl⟩
/-- R210 `00 pp 1001`, R211, R212, R213 `00 pp 0011`, R214 `00 pp 1011`. -/
theorem test_decode_alu16 : decode .two [0b00111001] = .ok (.add_HL_SP, []) ∧
    decode .two [0xE8, 0x80] = .ok (.add_SP_e8 (-128), []) ∧ decode .two [0xF8, 0x7F] = .ok (.ld_HL_SPe8 127, []) ∧
    decode .two [0b00010011] = .ok (.inc_DE, []) ∧
      decode .two [0b00001011] = .ok (.dec_BC, []) := ⟨rfl, rfl, rfl, rfl, rfl⟩
/-- R230 to R233. -/
theorem test_decode_rotateA : decode .two [0x07] = .ok (.rlca, []) ∧ decode .two [0x0F] = .ok (.rrca, []) ∧
    decode .two [0x17] = .ok (.rla, []) ∧ decode .two [0x1F] = .ok (.rra, []) := ⟨rfl, rfl, rfl, rfl⟩
/-- R120 `g g b b b s s s` after 0xCB: rotate 6 SWAP, BIT 7, RES 0, SET 1; a second byte 0xCB is SET 1,E. -/
theorem test_decode_prefixed : decode .two [0xCB, 0b00110110] = .ok (.swap_mHL, []) ∧
    decode .two [0xCB, 0b01111100] = .ok (.bit_7_H, []) ∧ decode .two [0xCB, 0b10000111] = .ok (.res_0_A, []) ∧
    decode .two [0xCB, 0b11001011] = .ok (.set_1_E, []) := ⟨rfl, rfl, rfl, rfl⟩
/-- R272 to R276, R277 to R282: cc = 2 is NC, t = 5 is 0x28; a16 low byte first; e8 signed. -/
theorem test_decode_control : decode .two [0b11010010, 0x50, 0x01] = .ok (.jp_NC_a16 0x0150, []) ∧
    decode .two [0b00110000, 0xFE] = .ok (.jr_NC_e8 (-2), []) ∧
      decode .two [0b11010100, 0x00, 0x03] = .ok (.call_NC_a16 0x0300, []) ∧
    decode .two [0b11010000] = .ok (.ret_NC, []) ∧ decode .two [0b11101111] = .ok (.rst_28, []) ∧
    decode .two [0xE9] = .ok (.jp_HL, []) ∧ decode .two [0xD9] = .ok (.reti, []) := ⟨rfl, rfl, rfl, rfl, rfl, rfl, rfl⟩
/-- R300 to R306: STOP takes its ignored byte at P_STOP_LEN = 2 only. -/
theorem test_decode_system : decode .two [0x10, 0x77, 0x00] = .ok (.stop, [0x00]) ∧
    decode .one [0x10, 0x77] = .ok (.stop, [0x77]) ∧
    decode .two [0x76] = .ok (.halt, []) ∧ decode .two [0xFB] = .ok (.ei, []) ∧
      decode .two [0xDD] = .ok (.illegal_DD, []) :=
  ⟨rfl, rfl, rfl, rfl, rfl⟩
/-- Bytes that end inside an instruction are refused by name. -/
theorem test_decode_truncated : decode .two [] = .error .empty ∧ decode .two [0xC3, 0x50] = .error (.truncated 0xC3) ∧
    decode .two [0xCB] = .error (.truncated 0xCB) := ⟨rfl, rfl, rfl⟩
/-- The table's words, a prefixed row with its first byte in bits 7 to 0 or, as the table's match has it, in bits 15 to 8. -/
theorem test_decodeTableWord : decodeTableWord 8 0x80 = some .add_A_B ∧ decodeTableWord 16 0x37CB = some .swap_A ∧
    decodeTableWord 16 0xCB37 = some .swap_A ∧ decodeTableWord 8 0xC3 = some (.jp_a16 0) := ⟨rfl, rfl, rfl, rfl⟩

/-! ## Decoding: every opcode byte and every prefixed byte, the 511 rows of spec/opcode_table.json -/

theorem test_decode_row_0x (b1 b2 : Byte) : ([0x00, 0x01, 0x02, 0x03, 0x04, 0x05, 0x06, 0x07, 0x08, 0x09, 0x0A, 0x0B,
    0x0C, 0x0D, 0x0E, 0x0F] : List Byte).map (fun op => decodeBytes op b1 b2) = [
    .nop, .ld_BC_d16 (pair b2 b1), .ld_mBC_A, .inc_BC, .inc_B, .dec_B, .ld_B_d8 b1, .rlca, .ld_ma16_SP (pair b2 b1),
    .add_HL_BC, .ld_A_mBC, .dec_BC, .inc_C, .dec_C, .ld_C_d8 b1, .rrca] := rfl
theorem test_decode_row_1x (b1 b2 : Byte) : ([0x10, 0x11, 0x12, 0x13, 0x14, 0x15, 0x16, 0x17, 0x18, 0x19, 0x1A, 0x1B,
    0x1C, 0x1D, 0x1E, 0x1F] : List Byte).map (fun op => decodeBytes op b1 b2) = [
    .stop, .ld_DE_d16 (pair b2 b1), .ld_mDE_A, .inc_DE, .inc_D, .dec_D, .ld_D_d8 b1, .rla, .jr_e8 b1.toInt,
    .add_HL_DE, .ld_A_mDE, .dec_DE, .inc_E, .dec_E, .ld_E_d8 b1, .rra] := rfl
theorem test_decode_row_2x (b1 b2 : Byte) : ([0x20, 0x21, 0x22, 0x23, 0x24, 0x25, 0x26, 0x27, 0x28, 0x29, 0x2A, 0x2B,
    0x2C, 0x2D, 0x2E, 0x2F] : List Byte).map (fun op => decodeBytes op b1 b2) = [
    .jr_NZ_e8 b1.toInt, .ld_HL_d16 (pair b2 b1), .ld_mHLi_A, .inc_HL, .inc_H, .dec_H, .ld_H_d8 b1, .daa,
    .jr_Z_e8 b1.toInt, .add_HL_HL, .ld_A_mHLi, .dec_HL, .inc_L, .dec_L, .ld_L_d8 b1, .cpl] := rfl
theorem test_decode_row_3x (b1 b2 : Byte) : ([0x30, 0x31, 0x32, 0x33, 0x34, 0x35, 0x36, 0x37, 0x38, 0x39, 0x3A, 0x3B,
    0x3C, 0x3D, 0x3E, 0x3F] : List Byte).map (fun op => decodeBytes op b1 b2) = [
    .jr_NC_e8 b1.toInt, .ld_SP_d16 (pair b2 b1), .ld_mHLd_A, .inc_SP, .inc_mHL, .dec_mHL, .ld_mHL_d8 b1, .scf,
    .jr_C_e8 b1.toInt, .add_HL_SP, .ld_A_mHLd, .dec_SP, .inc_A, .dec_A, .ld_A_d8 b1, .ccf] := rfl
theorem test_decode_row_4x (b1 b2 : Byte) : ([0x40, 0x41, 0x42, 0x43, 0x44, 0x45, 0x46, 0x47, 0x48, 0x49, 0x4A, 0x4B,
    0x4C, 0x4D, 0x4E, 0x4F] : List Byte).map (fun op => decodeBytes op b1 b2) = [
    .ld_B_B, .ld_B_C, .ld_B_D, .ld_B_E, .ld_B_H, .ld_B_L, .ld_B_mHL, .ld_B_A, .ld_C_B, .ld_C_C, .ld_C_D, .ld_C_E,
    .ld_C_H, .ld_C_L, .ld_C_mHL, .ld_C_A] := rfl
theorem test_decode_row_5x (b1 b2 : Byte) : ([0x50, 0x51, 0x52, 0x53, 0x54, 0x55, 0x56, 0x57, 0x58, 0x59, 0x5A, 0x5B,
    0x5C, 0x5D, 0x5E, 0x5F] : List Byte).map (fun op => decodeBytes op b1 b2) = [
    .ld_D_B, .ld_D_C, .ld_D_D, .ld_D_E, .ld_D_H, .ld_D_L, .ld_D_mHL, .ld_D_A, .ld_E_B, .ld_E_C, .ld_E_D, .ld_E_E,
    .ld_E_H, .ld_E_L, .ld_E_mHL, .ld_E_A] := rfl
theorem test_decode_row_6x (b1 b2 : Byte) : ([0x60, 0x61, 0x62, 0x63, 0x64, 0x65, 0x66, 0x67, 0x68, 0x69, 0x6A, 0x6B,
    0x6C, 0x6D, 0x6E, 0x6F] : List Byte).map (fun op => decodeBytes op b1 b2) = [
    .ld_H_B, .ld_H_C, .ld_H_D, .ld_H_E, .ld_H_H, .ld_H_L, .ld_H_mHL, .ld_H_A, .ld_L_B, .ld_L_C, .ld_L_D, .ld_L_E,
    .ld_L_H, .ld_L_L, .ld_L_mHL, .ld_L_A] := rfl
theorem test_decode_row_7x (b1 b2 : Byte) : ([0x70, 0x71, 0x72, 0x73, 0x74, 0x75, 0x76, 0x77, 0x78, 0x79, 0x7A, 0x7B,
    0x7C, 0x7D, 0x7E, 0x7F] : List Byte).map (fun op => decodeBytes op b1 b2) = [
    .ld_mHL_B, .ld_mHL_C, .ld_mHL_D, .ld_mHL_E, .ld_mHL_H, .ld_mHL_L, .halt, .ld_mHL_A, .ld_A_B, .ld_A_C, .ld_A_D,
    .ld_A_E, .ld_A_H, .ld_A_L, .ld_A_mHL, .ld_A_A] := rfl
theorem test_decode_row_8x (b1 b2 : Byte) : ([0x80, 0x81, 0x82, 0x83, 0x84, 0x85, 0x86, 0x87, 0x88, 0x89, 0x8A, 0x8B,
    0x8C, 0x8D, 0x8E, 0x8F] : List Byte).map (fun op => decodeBytes op b1 b2) = [
    .add_A_B, .add_A_C, .add_A_D, .add_A_E, .add_A_H, .add_A_L, .add_A_mHL, .add_A_A, .adc_A_B, .adc_A_C, .adc_A_D,
    .adc_A_E, .adc_A_H, .adc_A_L, .adc_A_mHL, .adc_A_A] := rfl
theorem test_decode_row_9x (b1 b2 : Byte) : ([0x90, 0x91, 0x92, 0x93, 0x94, 0x95, 0x96, 0x97, 0x98, 0x99, 0x9A, 0x9B,
    0x9C, 0x9D, 0x9E, 0x9F] : List Byte).map (fun op => decodeBytes op b1 b2) = [
    .sub_B, .sub_C, .sub_D, .sub_E, .sub_H, .sub_L, .sub_mHL, .sub_A, .sbc_A_B, .sbc_A_C, .sbc_A_D, .sbc_A_E,
    .sbc_A_H, .sbc_A_L, .sbc_A_mHL, .sbc_A_A] := rfl
theorem test_decode_row_Ax (b1 b2 : Byte) : ([0xA0, 0xA1, 0xA2, 0xA3, 0xA4, 0xA5, 0xA6, 0xA7, 0xA8, 0xA9, 0xAA, 0xAB,
    0xAC, 0xAD, 0xAE, 0xAF] : List Byte).map (fun op => decodeBytes op b1 b2) = [
    .and_B, .and_C, .and_D, .and_E, .and_H, .and_L, .and_mHL, .and_A, .xor_B, .xor_C, .xor_D, .xor_E, .xor_H, .xor_L,
    .xor_mHL, .xor_A] := rfl
theorem test_decode_row_Bx (b1 b2 : Byte) : ([0xB0, 0xB1, 0xB2, 0xB3, 0xB4, 0xB5, 0xB6, 0xB7, 0xB8, 0xB9, 0xBA, 0xBB,
    0xBC, 0xBD, 0xBE, 0xBF] : List Byte).map (fun op => decodeBytes op b1 b2) = [
    .or_B, .or_C, .or_D, .or_E, .or_H, .or_L, .or_mHL, .or_A, .cp_B, .cp_C, .cp_D, .cp_E, .cp_H, .cp_L, .cp_mHL,
      .cp_A] := rfl
theorem test_decode_row_Cx (b1 b2 : Byte) : ([0xC0, 0xC1, 0xC2, 0xC3, 0xC4, 0xC5, 0xC6, 0xC7, 0xC8, 0xC9, 0xCA, 0xCC,
    0xCD, 0xCE, 0xCF] : List Byte).map (fun op => decodeBytes op b1 b2) = [
    .ret_NZ, .pop_BC, .jp_NZ_a16 (pair b2 b1), .jp_a16 (pair b2 b1), .call_NZ_a16 (pair b2 b1), .push_BC,
    .add_A_d8 b1, .rst_00, .ret_Z, .ret, .jp_Z_a16 (pair b2 b1), .call_Z_a16 (pair b2 b1), .call_a16 (pair b2 b1),
    .adc_A_d8 b1, .rst_08] := rfl
theorem test_decode_row_Dx (b1 b2 : Byte) : ([0xD0, 0xD1, 0xD2, 0xD3, 0xD4, 0xD5, 0xD6, 0xD7, 0xD8, 0xD9, 0xDA, 0xDB,
    0xDC, 0xDD, 0xDE, 0xDF] : List Byte).map (fun op => decodeBytes op b1 b2) = [
    .ret_NC, .pop_DE, .jp_NC_a16 (pair b2 b1), .illegal_D3, .call_NC_a16 (pair b2 b1), .push_DE, .sub_d8 b1, .rst_10,
    .ret_C, .reti, .jp_C_a16 (pair b2 b1), .illegal_DB, .call_C_a16 (pair b2 b1), .illegal_DD, .sbc_A_d8 b1,
      .rst_18] := rfl
theorem test_decode_row_Ex (b1 b2 : Byte) : ([0xE0, 0xE1, 0xE2, 0xE3, 0xE4, 0xE5, 0xE6, 0xE7, 0xE8, 0xE9, 0xEA, 0xEB,
    0xEC, 0xED, 0xEE, 0xEF] : List Byte).map (fun op => decodeBytes op b1 b2) = [
    .ldh_ma8_A b1, .pop_HL, .ld_mC_A, .illegal_E3, .illegal_E4, .push_HL, .and_d8 b1, .rst_20, .add_SP_e8 b1.toInt,
    .jp_HL, .ld_ma16_A (pair b2 b1), .illegal_EB, .illegal_EC, .illegal_ED, .xor_d8 b1, .rst_28] := rfl
theorem test_decode_row_Fx (b1 b2 : Byte) : ([0xF0, 0xF1, 0xF2, 0xF3, 0xF4, 0xF5, 0xF6, 0xF7, 0xF8, 0xF9, 0xFA, 0xFB,
    0xFC, 0xFD, 0xFE, 0xFF] : List Byte).map (fun op => decodeBytes op b1 b2) = [
    .ldh_A_ma8 b1, .pop_AF, .ld_A_mC, .di, .illegal_F4, .push_AF, .or_d8 b1, .rst_30, .ld_HL_SPe8 b1.toInt,
    .ld_SP_HL, .ld_A_ma16 (pair b2 b1), .ei, .illegal_FC, .illegal_FD, .cp_d8 b1, .rst_38] := rfl
theorem test_decode_row_CB_0x (b2 : Byte) : ([0x00, 0x01, 0x02, 0x03, 0x04, 0x05, 0x06, 0x07, 0x08, 0x09, 0x0A, 0x0B,
    0x0C, 0x0D, 0x0E, 0x0F] : List Byte).map (fun b => decodeBytes 0xCB b b2) = [
    .rlc_B, .rlc_C, .rlc_D, .rlc_E, .rlc_H, .rlc_L, .rlc_mHL, .rlc_A, .rrc_B, .rrc_C, .rrc_D, .rrc_E, .rrc_H, .rrc_L,
    .rrc_mHL, .rrc_A] := rfl
theorem test_decode_row_CB_1x (b2 : Byte) : ([0x10, 0x11, 0x12, 0x13, 0x14, 0x15, 0x16, 0x17, 0x18, 0x19, 0x1A, 0x1B,
    0x1C, 0x1D, 0x1E, 0x1F] : List Byte).map (fun b => decodeBytes 0xCB b b2) = [
    .rl_B, .rl_C, .rl_D, .rl_E, .rl_H, .rl_L, .rl_mHL, .rl_A, .rr_B, .rr_C, .rr_D, .rr_E, .rr_H, .rr_L, .rr_mHL,
      .rr_A] := rfl
theorem test_decode_row_CB_2x (b2 : Byte) : ([0x20, 0x21, 0x22, 0x23, 0x24, 0x25, 0x26, 0x27, 0x28, 0x29, 0x2A, 0x2B,
    0x2C, 0x2D, 0x2E, 0x2F] : List Byte).map (fun b => decodeBytes 0xCB b b2) = [
    .sla_B, .sla_C, .sla_D, .sla_E, .sla_H, .sla_L, .sla_mHL, .sla_A, .sra_B, .sra_C, .sra_D, .sra_E, .sra_H, .sra_L,
    .sra_mHL, .sra_A] := rfl
theorem test_decode_row_CB_3x (b2 : Byte) : ([0x30, 0x31, 0x32, 0x33, 0x34, 0x35, 0x36, 0x37, 0x38, 0x39, 0x3A, 0x3B,
    0x3C, 0x3D, 0x3E, 0x3F] : List Byte).map (fun b => decodeBytes 0xCB b b2) = [
    .swap_B, .swap_C, .swap_D, .swap_E, .swap_H, .swap_L, .swap_mHL, .swap_A, .srl_B, .srl_C, .srl_D, .srl_E, .srl_H,
    .srl_L, .srl_mHL, .srl_A] := rfl
theorem test_decode_row_CB_4x (b2 : Byte) : ([0x40, 0x41, 0x42, 0x43, 0x44, 0x45, 0x46, 0x47, 0x48, 0x49, 0x4A, 0x4B,
    0x4C, 0x4D, 0x4E, 0x4F] : List Byte).map (fun b => decodeBytes 0xCB b b2) = [
    .bit_0_B, .bit_0_C, .bit_0_D, .bit_0_E, .bit_0_H, .bit_0_L, .bit_0_mHL, .bit_0_A, .bit_1_B, .bit_1_C, .bit_1_D,
    .bit_1_E, .bit_1_H, .bit_1_L, .bit_1_mHL, .bit_1_A] := rfl
theorem test_decode_row_CB_5x (b2 : Byte) : ([0x50, 0x51, 0x52, 0x53, 0x54, 0x55, 0x56, 0x57, 0x58, 0x59, 0x5A, 0x5B,
    0x5C, 0x5D, 0x5E, 0x5F] : List Byte).map (fun b => decodeBytes 0xCB b b2) = [
    .bit_2_B, .bit_2_C, .bit_2_D, .bit_2_E, .bit_2_H, .bit_2_L, .bit_2_mHL, .bit_2_A, .bit_3_B, .bit_3_C, .bit_3_D,
    .bit_3_E, .bit_3_H, .bit_3_L, .bit_3_mHL, .bit_3_A] := rfl
theorem test_decode_row_CB_6x (b2 : Byte) : ([0x60, 0x61, 0x62, 0x63, 0x64, 0x65, 0x66, 0x67, 0x68, 0x69, 0x6A, 0x6B,
    0x6C, 0x6D, 0x6E, 0x6F] : List Byte).map (fun b => decodeBytes 0xCB b b2) = [
    .bit_4_B, .bit_4_C, .bit_4_D, .bit_4_E, .bit_4_H, .bit_4_L, .bit_4_mHL, .bit_4_A, .bit_5_B, .bit_5_C, .bit_5_D,
    .bit_5_E, .bit_5_H, .bit_5_L, .bit_5_mHL, .bit_5_A] := rfl
theorem test_decode_row_CB_7x (b2 : Byte) : ([0x70, 0x71, 0x72, 0x73, 0x74, 0x75, 0x76, 0x77, 0x78, 0x79, 0x7A, 0x7B,
    0x7C, 0x7D, 0x7E, 0x7F] : List Byte).map (fun b => decodeBytes 0xCB b b2) = [
    .bit_6_B, .bit_6_C, .bit_6_D, .bit_6_E, .bit_6_H, .bit_6_L, .bit_6_mHL, .bit_6_A, .bit_7_B, .bit_7_C, .bit_7_D,
    .bit_7_E, .bit_7_H, .bit_7_L, .bit_7_mHL, .bit_7_A] := rfl
theorem test_decode_row_CB_8x (b2 : Byte) : ([0x80, 0x81, 0x82, 0x83, 0x84, 0x85, 0x86, 0x87, 0x88, 0x89, 0x8A, 0x8B,
    0x8C, 0x8D, 0x8E, 0x8F] : List Byte).map (fun b => decodeBytes 0xCB b b2) = [
    .res_0_B, .res_0_C, .res_0_D, .res_0_E, .res_0_H, .res_0_L, .res_0_mHL, .res_0_A, .res_1_B, .res_1_C, .res_1_D,
    .res_1_E, .res_1_H, .res_1_L, .res_1_mHL, .res_1_A] := rfl
theorem test_decode_row_CB_9x (b2 : Byte) : ([0x90, 0x91, 0x92, 0x93, 0x94, 0x95, 0x96, 0x97, 0x98, 0x99, 0x9A, 0x9B,
    0x9C, 0x9D, 0x9E, 0x9F] : List Byte).map (fun b => decodeBytes 0xCB b b2) = [
    .res_2_B, .res_2_C, .res_2_D, .res_2_E, .res_2_H, .res_2_L, .res_2_mHL, .res_2_A, .res_3_B, .res_3_C, .res_3_D,
    .res_3_E, .res_3_H, .res_3_L, .res_3_mHL, .res_3_A] := rfl
theorem test_decode_row_CB_Ax (b2 : Byte) : ([0xA0, 0xA1, 0xA2, 0xA3, 0xA4, 0xA5, 0xA6, 0xA7, 0xA8, 0xA9, 0xAA, 0xAB,
    0xAC, 0xAD, 0xAE, 0xAF] : List Byte).map (fun b => decodeBytes 0xCB b b2) = [
    .res_4_B, .res_4_C, .res_4_D, .res_4_E, .res_4_H, .res_4_L, .res_4_mHL, .res_4_A, .res_5_B, .res_5_C, .res_5_D,
    .res_5_E, .res_5_H, .res_5_L, .res_5_mHL, .res_5_A] := rfl
theorem test_decode_row_CB_Bx (b2 : Byte) : ([0xB0, 0xB1, 0xB2, 0xB3, 0xB4, 0xB5, 0xB6, 0xB7, 0xB8, 0xB9, 0xBA, 0xBB,
    0xBC, 0xBD, 0xBE, 0xBF] : List Byte).map (fun b => decodeBytes 0xCB b b2) = [
    .res_6_B, .res_6_C, .res_6_D, .res_6_E, .res_6_H, .res_6_L, .res_6_mHL, .res_6_A, .res_7_B, .res_7_C, .res_7_D,
    .res_7_E, .res_7_H, .res_7_L, .res_7_mHL, .res_7_A] := rfl
theorem test_decode_row_CB_Cx (b2 : Byte) : ([0xC0, 0xC1, 0xC2, 0xC3, 0xC4, 0xC5, 0xC6, 0xC7, 0xC8, 0xC9, 0xCA, 0xCB,
    0xCC, 0xCD, 0xCE, 0xCF] : List Byte).map (fun b => decodeBytes 0xCB b b2) = [
    .set_0_B, .set_0_C, .set_0_D, .set_0_E, .set_0_H, .set_0_L, .set_0_mHL, .set_0_A, .set_1_B, .set_1_C, .set_1_D,
    .set_1_E, .set_1_H, .set_1_L, .set_1_mHL, .set_1_A] := rfl
theorem test_decode_row_CB_Dx (b2 : Byte) : ([0xD0, 0xD1, 0xD2, 0xD3, 0xD4, 0xD5, 0xD6, 0xD7, 0xD8, 0xD9, 0xDA, 0xDB,
    0xDC, 0xDD, 0xDE, 0xDF] : List Byte).map (fun b => decodeBytes 0xCB b b2) = [
    .set_2_B, .set_2_C, .set_2_D, .set_2_E, .set_2_H, .set_2_L, .set_2_mHL, .set_2_A, .set_3_B, .set_3_C, .set_3_D,
    .set_3_E, .set_3_H, .set_3_L, .set_3_mHL, .set_3_A] := rfl
theorem test_decode_row_CB_Ex (b2 : Byte) : ([0xE0, 0xE1, 0xE2, 0xE3, 0xE4, 0xE5, 0xE6, 0xE7, 0xE8, 0xE9, 0xEA, 0xEB,
    0xEC, 0xED, 0xEE, 0xEF] : List Byte).map (fun b => decodeBytes 0xCB b b2) = [
    .set_4_B, .set_4_C, .set_4_D, .set_4_E, .set_4_H, .set_4_L, .set_4_mHL, .set_4_A, .set_5_B, .set_5_C, .set_5_D,
    .set_5_E, .set_5_H, .set_5_L, .set_5_mHL, .set_5_A] := rfl
theorem test_decode_row_CB_Fx (b2 : Byte) : ([0xF0, 0xF1, 0xF2, 0xF3, 0xF4, 0xF5, 0xF6, 0xF7, 0xF8, 0xF9, 0xFA, 0xFB,
    0xFC, 0xFD, 0xFE, 0xFF] : List Byte).map (fun b => decodeBytes 0xCB b b2) = [
    .set_6_B, .set_6_C, .set_6_D, .set_6_E, .set_6_H, .set_6_L, .set_6_mHL, .set_6_A, .set_7_B, .set_7_C, .set_7_D,
    .set_7_E, .set_7_H, .set_7_L, .set_7_mHL, .set_7_A] := rfl

/-! ## Instructions: one step of `exec` on a small state (the vectors of 95_test_vectors.md) -/

/-- The reset state with registers A to L, F, SP and listed bytes of bus storage. -/
def start (a b c d e h l f : Byte) (sp : Word) (mem : Memory) : State :=
  { State.reset with
    regs := { a := a, b := b, c := c, d := d, e := e, h := h, l := l }, flags := flagsOfByte f, sp := sp, mem := mem }

/-- What an observation sees after the instruction; none where it stops. -/
def after {α : Type} (i : Instr) (s : State) (see : State → α) : Option α :=
  match exec i s with
  | .next t => some (see t)
  | .fault _ => none
  | .refused _ => none

/-- The registers A, F, B to L and the cost. -/
def allRegs (s : State) : List Byte × Nat :=
  ([s.regs.a, flagByte s.flags, s.regs.b, s.regs.c, s.regs.d, s.regs.e, s.regs.h, s.regs.l], s.cost)

/-- A, F and the cost. -/
def aluView (s : State) : Byte × Byte × Nat := (s.regs.a, flagByte s.flags, s.cost)

/-- VL1. -/
theorem test_ld_B_C : after .ld_B_C (start 1 0 0x5A 3 4 5 6 0 0 []) allRegs = some ([1, 0, 0x5A, 0x5A, 3, 4, 5, 6],
    4) := by decide
/-- VL3. -/
theorem test_ld_mHL_A : after .ld_mHL_A (start 0x77 0 0 0 0 0xC0 0 0 0 []) (fun t => (t.mem, t.cost)) =
    some ([(0xC000, 0x77)], 8) := by decide
/-- VL4: the echo of work RAM. -/
theorem test_ld_A_mHL_echo : after .ld_A_mHL (start 0 0 0 0 0 0xE0 5 0 0 [(0xC005, 0x33)]) aluView = some (0x33, 0,
    8) := by decide
/-- VL5. -/
theorem test_ld_mHL_d8 : after (.ld_mHL_d8 0x99) (start 0 0 0 0 0 0xC0 0x10 0 0 []) (fun t => (t.mem, t.cost)) =
    some ([(0xC010, 0x99)], 12) := by decide
/-- The example of R134. -/
theorem test_ld_A_d8 : after (.ld_A_d8 0x45) (start 0 0 0 0 0 0 0 0 0 []) aluView = some (0x45, 0, 8) := by decide
/-- VL6. -/
theorem test_ld_A_mBC : after .ld_A_mBC (start 0 0xC0 0x20 0 0 0 0 0 0 [(0xC020, 0x11)]) aluView = some (0x11, 0,
    8) := by decide
/-- VL7. -/
theorem test_ld_mDE_A : after .ld_mDE_A (start 0x5E 0 0 0xC0 0x30 0 0 0 0 []) (fun t => (t.mem, t.cost)) =
    some ([(0xC030, 0x5E)], 8) := by decide
/-- VL8. -/
theorem test_ld_A_ma16 : after (.ld_A_ma16 0xC123) (start 0 0 0 0 0 0 0 0 0 [(0xC123, 1)]) aluView = some (1, 0,
    16) := by decide
/-- VL9. -/
theorem test_ld_ma16_A : after (.ld_ma16_A 0xFF80) (start 0xA5 0 0 0 0 0 0 0 0 []) (fun t => (t.mem, t.cost)) =
    some ([(0xFF80, 0xA5)], 16) := by decide
/-- VL10. -/
theorem test_ldh_ma8_A : after (.ldh_ma8_A 0x81) (start 0x3C 0 0 0 0 0 0 0 0 []) (fun t => (t.mem, t.cost)) =
    some ([(0xFF81, 0x3C)], 12) := by decide
/-- VL11: LY is read as stored. -/
theorem test_ldh_A_ma8 : after (.ldh_A_ma8 0x44) (start 0 0 0 0 0 0 0 0 0 [(0xFF44, 0x90)]) aluView = some (0x90, 0,
    12) := by decide
/-- VL12. -/
theorem test_ld_mC_A : after .ld_mC_A (start 0x12 0 0x82 0 0 0 0 0 0 []) (fun t => (t.mem, t.cost)) =
    some ([(0xFF82, 0x12)], 8) := by decide
/-- VL13. -/
theorem test_ld_A_mC : after .ld_A_mC (start 0 0 0x82 0 0 0 0 0 0 [(0xFF82, 0x34)]) aluView = some (0x34, 0, 8) :=
    by decide
/-- VL14. -/
theorem test_ld_mHLi_A : after .ld_mHLi_A (start 0x9C 0 0 0 0 0xC0 0xFF 0 0 []) (fun t => (t.mem, t.hl, t.cost)) =
    some ([(0xC0FF, 0x9C)], 0xC100, 8) := by decide
/-- VL16: HL wraps; the byte at 0xFFFF is IE. -/
theorem test_ld_A_mHLi : after .ld_A_mHLi (start 0 0 0 0 0 0xFF 0xFF 0 0 [(0xFFFF, 0x1F)]) (fun t => (t.regs.a, t.hl,
    t.cost)) =
    some (0x1F, 0x0000, 8) := by decide
/-- The corner case of R145: HL = 0x0000 wraps; a write there goes to the bank controller. -/
theorem test_ld_mHLd_A : after .ld_mHLd_A (start 3 0 0 0 0 0 0 0 0 []) (fun t => (t.mem, t.hl, t.cost)) =
    some ([], 0xFFFF, 8) := by decide
/-- VL15. -/
theorem test_ld_A_mHLd : after .ld_A_mHLd (start 0 0 0 0 0 0xC0 0 0 0 [(0xC000, 0x66)]) (fun t => (t.regs.a, t.hl,
    t.cost)) =
    some (0x66, 0xBFFF, 8) := by decide
/-- VL17. -/
theorem test_ld_BC_d16 : after (.ld_BC_d16 0x1234) (start 0 0 0 0 0 0 0 0 0 []) (fun t => (t.regs.b, t.regs.c, t.cost)) =
    some (0x12, 0x34, 12) := by decide
/-- VL19. -/
theorem test_ld_ma16_SP : after (.ld_ma16_SP 0xC000) (start 0 0 0 0 0 0 0 0 0xABCD []) (fun t => (t.mem, t.cost)) =
    some ([(0xC000, 0xCD), (0xC001, 0xAB)], 20) := by decide
/-- VL20. -/
theorem test_ld_SP_HL : after .ld_SP_HL (start 0 0 0 0 0 0xD0 0 0 0 []) (fun t => (t.sp, t.cost)) = some (0xD000,
    8) := by decide
/-- VL22. -/
theorem test_push_AF : after .push_AF (start 0x12 0 0 0 0 0 0 0xB0 0xFFFE []) (fun t => (t.mem, t.sp, t.cost)) =
    some ([(0xFFFC, 0xB0), (0xFFFD, 0x12)], 0xFFFC, 16) := by decide
/-- VL25: SP wraps; the byte at 0x0000 goes to the bank controller. -/
theorem test_push_BC_wraps : after .push_BC (start 0 0x12 0x34 0 0 0 0 0 1 []) (fun t => (t.mem, t.sp)) =
    some ([(0xFFFF, 0x34)], 0xFFFF) := by decide
/-- VL23. -/
theorem test_pop_DE : after .pop_DE (start 0 0 0 0 0 0 0 0 0xFFFC [(0xFFFC, 0x34), (0xFFFD, 0x12)])
    (fun t => (t.regs.d, t.regs.e, t.sp, t.cost)) = some (0x12, 0x34, 0xFFFE, 12) := by decide
/-- VL24: the low nibble of the popped F is discarded. -/
theorem test_pop_AF : after .pop_AF (start 0 0 0 0 0 0 0 0 0xFFFC [(0xFFFC, 0xFF), (0xFFFD, 0x12)]) aluView =
    some (0x12, 0xF0, 12) := by decide
/-- VL29: a write of LY faults and changes nothing. -/
theorem test_ld_mHL_A_to_LY : exec .ld_mHL_A (start 1 0 0 0 0 0xFF 0x44 0 0 []) =
    .fault (.unspecifiedWrite 0xFF44 1 { start 1 0 0 0 0 0xFF 0x44 0 0 [] with
      fault := some (.unspecifiedWrite 0xFF44 1) }) := rfl
/-- VL30. -/
theorem test_ldh_DIV : after (.ldh_ma8_A 0x04) (start 0x77 0 0 0 0 0 0 0 0 [(0xFF04, 0x55)]) (fun t => t.load Port.DIV) =
    some 0x00 := by decide

/-- VA1 and VA2 (the half-carry of 90_conflicts.md C1). -/
theorem test_add : after .add_A_B (start 0x45 0x38 0 0 0 0 0 0 0 []) aluView = some (0x7D, 0x00, 4) ∧
    after .add_A_A (start 0x80 0 0 0 0 0 0 0 0 []) aluView = some (0x00, 0x90, 4) := by decide
/-- VA5. -/
theorem test_add_mHL : after .add_A_mHL (start 0x3A 0 0 0 0 0xC0 0 0 0 [(0xC000, 0xC6)]) aluView = some (0, 0xB0,
    8) := by decide
/-- VA6 and VA7. -/
theorem test_adc : after .adc_A_E (start 0xE1 0 0 0 0x0F 0 0 0x10 0 []) aluView = some (0xF1, 0x20, 4) ∧
    after (.adc_A_d8 0) (start 0xFF 0 0 0 0 0 0 0x10 0 []) aluView = some (0, 0xB0, 8) := by decide
/-- VA9 and VA10. -/
theorem test_sub : after (.sub_d8 0x0F) (start 0x3E 0 0 0 0 0 0 0 0 []) aluView = some (0x2F, 0x60, 8) ∧
    after (.sub_d8 1) (start 0 0 0 0 0 0 0 0 0 []) aluView = some (0xFF, 0x70, 8) := by decide
/-- VA11 and VA12. -/
theorem test_sbc : after .sbc_A_H (start 0x3B 0 0 0 0 0x2A 0 0x10 0 []) aluView = some (0x10, 0x40, 4) ∧
    after (.sbc_A_d8 0) (start 0 0 0 0 0 0 0 0x10 0 []) aluView = some (0xFF, 0x70, 8) := by decide
/-- VA13 and VA14. -/
theorem test_cp : after (.cp_d8 0x40) (start 0x3C 0 0 0 0 0 0 0 0 []) aluView = some (0x3C, 0x50, 8) ∧
    after .cp_B (start 0x3C 0x3C 0 0 0 0 0 0x10 0 []) aluView = some (0x3C, 0xC0, 4) := by decide
/-- VA15 and VA16. -/
theorem test_and : after (.and_d8 0x3F) (start 0x5A 0 0 0 0 0 0 0x50 0 []) aluView = some (0x1A, 0x20, 8) ∧
    after .and_B (start 0xF0 0x0F 0 0 0 0 0 0 0 []) aluView = some (0, 0xA0, 4) := by decide
/-- VA17 and the example of R178. -/
theorem test_xor : after .xor_A (start 0x5A 0 0 0 0 0 0 0x70 0 []) aluView = some (0, 0x80, 4) ∧
    after (.xor_d8 0x0F) (start 0xFF 0 0 0 0 0 0 0 0 []) aluView = some (0xF0, 0, 8) := by decide
/-- VA18. -/
theorem test_or : after (.or_d8 3) (start 0x5A 0 0 0 0 0 0 0xF0 0 []) aluView = some (0x5B, 0, 8) := by decide
/-- VA19 and VA20: C is left. -/
theorem test_inc : after .inc_A (start 0x0F 0 0 0 0 0 0 0x50 0 []) aluView = some (0x10, 0x30, 4) ∧
    after .inc_B (start 0 0xFF 0 0 0 0 0 0x10 0 []) (fun t => (t.regs.b, flagByte t.flags)) = some (0, 0xB0) := by decide
/-- VA21 to VA23. -/
theorem test_dec : after .dec_C (start 0 0 0x10 0 0 0 0 0 0 []) (fun t => (t.regs.c, flagByte t.flags)) = some (0x0F,
    0x60) ∧
    after .dec_D (start 0 0 0 1 0 0 0 0 0 []) (fun t => (t.regs.d, flagByte t.flags)) = some (0, 0xC0) ∧
    after .dec_E (start 0 0 0 0 0 0 0 0x80 0 []) (fun t => (t.regs.e, flagByte t.flags)) = some (0xFF, 0x60) := by decide
/-- VA24. -/
theorem test_inc_mHL : after .inc_mHL (start 0 0 0 0 0 0xC0 0 0 0 [(0xC000, 0xFF)])
    (fun t => (t.mem, flagByte t.flags, t.cost)) = some ([], 0xA0, 12) := by decide
/-- VA25. -/
theorem test_dec_mHL : after .dec_mHL (start 0 0 0 0 0 0xC0 0 0 0 [])
    (fun t => (t.mem, flagByte t.flags, t.cost)) = some ([(0xC000, 0xFF)], 0x60, 12) := by decide
/-- VA26 to VA28. -/
theorem test_daa : after .daa (start 0x7D 0 0 0 0 0 0 0 0 []) aluView = some (0x83, 0, 4) ∧
    after .daa (start 0x9A 0 0 0 0 0 0 0 0 []) aluView = some (0, 0x90, 4) ∧
    after .daa (start 0x1F 0 0 0 0 0 0 0x60 0 []) aluView = some (0x19, 0x40, 4) := by decide
/-- VA29 and VA30. -/
theorem test_daa_other : after .daa (start 0 0 0 0 0 0 0 0x60 0 []) aluView = some (0xFA, 0x40, 4) ∧
    after .daa (start 0x22 0 0 0 0 0 0 0x30 0 []) aluView = some (0x88, 0x10, 4) := by decide
/-- VA31. -/
theorem test_cpl : after .cpl (start 0x35 0 0 0 0 0 0 0 0 []) aluView = some (0xCA, 0x60, 4) := by decide
/-- VA32. -/
theorem test_scf : after .scf (start 0 0 0 0 0 0 0 0xE0 0 []) aluView = some (0, 0x90, 4) := by decide
/-- VA33. -/
theorem test_ccf : after .ccf (start 0 0 0 0 0 0 0 0x70 0 []) aluView = some (0, 0x00, 4) := by decide

/-- The flags, HL, SP and the cost. -/
def wordView (s : State) : Word × Word × Byte × Nat := (s.hl, s.sp, flagByte s.flags, s.cost)

/-- VW1 to VW4. -/
theorem test_add_HL : after .add_HL_BC (start 0 6 5 0 0 0x8A 0x23 0 0 []) wordView = some (0x9028, 0, 0x20, 8) ∧
    after .add_HL_HL (start 0 0 0 0 0 0x80 0 0xC0 0 []) wordView = some (0, 0, 0xD0, 8) ∧
    after .add_HL_DE (start 0 0 0 0 1 0xFF 0xFF 0 0 []) wordView = some (0, 0, 0x30, 8) ∧
    after .add_HL_SP (start 0 0 0 0 0 0x0F 0xFF 0 1 []) wordView = some (0x1000, 1, 0x20, 8) := by decide
/-- VW5 and VW7. -/
theorem test_add_SP : after (.add_SP_e8 2) (start 0 0 0 0 0 0 0 0xC0 0xFFF8 []) wordView = some (0, 0xFFFA, 0, 16) ∧
    after (.add_SP_e8 (-1)) (start 0 0 0 0 0 0 0 0 1 []) wordView = some (0, 0, 0x30, 16) := by decide
/-- VW9 and VW10. -/
theorem test_ld_HL_SP : after (.ld_HL_SPe8 8) (start 0 0 0 0 0 0 0 0xC0 0xFFF8 []) wordView = some (0, 0xFFF8, 0x30, 12) ∧
    after (.ld_HL_SPe8 (-2)) (start 0 0 0 0 0 0 0 0 0xD000 []) wordView = some (0xCFFE, 0xD000, 0, 12) := by decide
/-- VW11 and VW13. -/
theorem test_inc16 : after .inc_BC (start 0 0xFF 0xFF 0 0 0 0 0x60 0 []) allRegs = some ([0, 0x60, 0, 0, 0, 0, 0, 0], 8) ∧
    after .inc_SP (start 0 0 0 0 0 0 0 0 0xFFFF []) wordView = some (0, 0, 0, 8) := by decide
/-- VW12. -/
theorem test_dec16 : after .dec_DE (start 0 0 0 0 0 0 0 0x90 0 []) allRegs =
    some ([0, 0x90, 0, 0, 0xFF, 0xFF, 0, 0], 8) := by decide

/-- VR1 and VR2: Z is clear even where A is 0. -/
theorem test_rlca : after .rlca (start 0x85 0 0 0 0 0 0 0xE0 0 []) aluView = some (0x0B, 0x10, 4) ∧
    after .rlca (start 0 0 0 0 0 0 0 0x90 0 []) aluView = some (0, 0, 4) := by decide
/-- VR3. -/
theorem test_rrca : after .rrca (start 0x3B 0 0 0 0 0 0 0 0 []) aluView = some (0x9D, 0x10, 4) := by decide
/-- VR4. -/
theorem test_rla : after .rla (start 0x95 0 0 0 0 0 0 0x10 0 []) aluView = some (0x2B, 0x10, 4) := by decide
/-- VR5. -/
theorem test_rra : after .rra (start 0x81 0 0 0 0 0 0 0 0 []) aluView = some (0x40, 0x10, 4) := by decide
/-- VR6 and VR21. -/
theorem test_rlc : after .rlc_B (start 0 0x85 0 0 0 0 0 0 0 []) (fun t => (t.regs.b, flagByte t.flags, t.cost)) =
      some (0x0B, 0x10, 8) ∧
    after .rlc_mHL (start 0 0 0 0 0 0xC0 0 0 0 [(0xC000, 0x80)]) (fun t => (t.mem, flagByte t.flags, t.cost)) =
      some ([(0xC000, 1)], 0x10, 16) := by decide
/-- VR8. -/
theorem test_rrc : after .rrc_C (start 0 0 1 0 0 0 0 0 0 []) (fun t => (t.regs.c, flagByte t.flags, t.cost)) =
    some (0x80, 0x10, 8) := by decide
/-- VR9. -/
theorem test_rl : after .rl_D (start 0 0 0 0x80 0 0 0 0 0 []) (fun t => (t.regs.d, flagByte t.flags, t.cost)) =
    some (0, 0x90, 8) := by decide
/-- VR10. -/
theorem test_rr : after .rr_E (start 0 0 0 0 1 0 0 0 0 []) (fun t => (t.regs.e, flagByte t.flags, t.cost)) =
    some (0, 0x90, 8) := by decide
/-- VR11. -/
theorem test_sla : after .sla_H (start 0 0 0 0 0 0xFF 0 0 0 []) (fun t => (t.regs.h, flagByte t.flags, t.cost)) =
    some (0xFE, 0x10, 8) := by decide
/-- VR12. -/
theorem test_sra : after .sra_A (start 0x8A 0 0 0 0 0 0 0x10 0 []) aluView = some (0xC5, 0, 8) := by decide
/-- VR13. -/
theorem test_swap : after .swap_A (start 0xF0 0 0 0 0 0 0 0x70 0 []) aluView = some (0x0F, 0, 8) := by decide
/-- VR15. -/
theorem test_srl : after .srl_L (start 0 0 0 0 0 0 1 0 0 []) (fun t => (t.regs.l, flagByte t.flags, t.cost)) =
    some (0, 0x90, 8) := by decide
/-- VR16 and VR18. -/
theorem test_bit : after .bit_7_H (start 0 0 0 0 0 0x80 0 0xD0 0 []) aluView = some (0, 0x30, 8) ∧
    after .bit_3_mHL (start 0 0 0 0 0 0xC0 0 0x80 0 [(0xC000, 8)]) aluView = some (0, 0x20, 12) := by decide
/-- VR19. -/
theorem test_res : after .res_0_A (start 0xFF 0 0 0 0 0 0 0xF0 0 []) aluView = some (0xFE, 0xF0, 8) := by decide
/-- VR20 and VR22. -/
theorem test_set : after .set_7_mHL (start 0 0 0 0 0 0xC0 0 0 0 [(0xC000, 1)]) (fun t => (t.mem, t.cost)) =
      some ([(0xC000, 0x81)], 16) ∧
    after .set_1_E (start 0 0 0 0 0 0 0 0 0 []) (fun t => (t.regs.e, t.cost)) = some (2, 8) := by decide

/-- PC, SP and the cost. -/
def jumpView (s : State) : Word × Word × Nat := (s.pc, s.sp, s.cost)

/-- The state with PC at an address, as after the fetch of an instruction that ends there. -/
def atPc (pc : Word) (s : State) : State := { s with pc := pc }

/-- VC1 to VC4. -/
theorem test_jp : after (.jp_a16 0x0150) (atPc 0x103 (start 0 0 0 0 0 0 0 0 0 [])) jumpView = some (0x0150, 0, 16) ∧
    after (.jp_NZ_a16 0x2000) (atPc 0x103 (start 0 0 0 0 0 0 0 0x80 0 [])) jumpView = some (0x0103, 0, 12) ∧
    after (.jp_Z_a16 0x2000) (atPc 0x103 (start 0 0 0 0 0 0 0 0x80 0 [])) jumpView = some (0x2000, 0, 16) ∧
    after .jp_HL (atPc 0x101 (start 0 0 0 0 0 0x40 0 0 0 [])) jumpView = some (0x4000, 0, 4) := by decide
/-- VC5 to VC8. -/
theorem test_jr : after (.jr_e8 (-2)) (atPc 0x102 (start 0 0 0 0 0 0 0 0 0 [])) jumpView = some (0x0100, 0, 12) ∧
    after (.jr_NZ_e8 5) (atPc 0x102 (start 0 0 0 0 0 0 0 0 0 [])) jumpView = some (0x0107, 0, 12) ∧
    after (.jr_C_e8 5) (atPc 0x102 (start 0 0 0 0 0 0 0 0 0 [])) jumpView = some (0x0102, 0, 8) ∧
    after (.jr_e8 (-128)) (atPc 0x102 (start 0 0 0 0 0 0 0 0 0 [])) jumpView = some (0x0082, 0, 12) := by decide
/-- VC9 to VC11. -/
theorem test_call : after (.call_a16 0x0200) (atPc 0x103 (start 0 0 0 0 0 0 0 0 0xFFFE [])) (fun t => (jumpView t,
    t.mem)) =
      some ((0x0200, 0xFFFC, 24), [(0xFFFC, 3), (0xFFFD, 1)]) ∧
    after (.call_NZ_a16 0x0300) (atPc 0x103 (start 0 0 0 0 0 0 0 0x80 0xFFFE [])) jumpView = some (0x0103, 0xFFFE, 12) ∧
    after (.call_C_a16 0x0300) (atPc 0x103 (start 0 0 0 0 0 0 0 0x10 0xFFFE [])) jumpView = some (0x0300, 0xFFFC,
      24) := by decide
/-- VC12, VC15, VC16. -/
theorem test_ret : after .ret (start 0 0 0 0 0 0 0 0 0xFFFC [(0xFFFC, 0x53), (0xFFFD, 1)]) jumpView = some (0x0153,
    0xFFFE, 16) ∧
    after .ret_Z (start 0 0 0 0 0 0 0 0x80 0xFFFC [(0xFFFD, 0x30)]) jumpView = some (0x3000, 0xFFFE, 20) ∧
    after .ret_NC (atPc 0x101 (start 0 0 0 0 0 0 0 0x10 0xFFFC [])) jumpView = some (0x0101, 0xFFFC, 8) := by decide
/-- VC13. -/
theorem test_reti : after .reti (start 0 0 0 0 0 0 0 0 0xFFFC [(0xFFFD, 2)]) (fun t => (jumpView t, t.ime)) =
    some ((0x0200, 0xFFFE, 16), true) := by decide
/-- VC14. -/
theorem test_rst : after .rst_28 (atPc 0x101 (start 0 0 0 0 0 0 0 0 0xFFFE [])) (fun t => (jumpView t, t.mem)) =
    some ((0x0028, 0xFFFC, 16), [(0xFFFC, 1), (0xFFFD, 1)]) := by decide

/-- VS1 to VS3. -/
theorem test_nop_halt_stop : after .nop State.reset (fun t => (t.halted, t.cost)) = some (false, 4) ∧
    after .halt State.reset (fun t => (t.halted, t.cost)) = some (true, 4) ∧
    after .stop State.reset (fun t => (t.halted, t.cost)) = some (false, 4) := by decide
/-- VS4 and VS5. -/
theorem test_di_ei : after .di { State.reset with ime := true } (fun t => (t.ime, t.cost)) = some (false, 4) ∧
    after .ei State.reset (fun t => (t.ime, t.cost)) = some (true, 4) := by decide
/-- R304, the variant at P_EI_DELAY = 1: with IME clear EI is pending, with IME set it has no effect. -/
theorem test_ei_delayed : after .ei { State.reset with params := { Config.decided with eiDelay := .one } }
      (fun t => (t.ime, t.eiPending)) = some (false, true) ∧
    after .ei { State.reset with params := { Config.decided with eiDelay := .one }, ime := true }
      (fun t => (t.ime, t.eiPending)) = some (true, false) := by decide
/-- VS6: the fault records the opcode and its address; PC is past the opcode. -/
theorem test_illegal : exec .illegal_DD (atPc 0x0101 State.reset) =
    .fault (.illegalOpcode 0xDD 0x0100 { atPc 0x0101 State.reset with fault := some (.illegalOpcode 0xDD 0x0100) }) := rfl

/-! ## Steps and devices -/

/-- What an observation sees after a step. -/
def stepped {α : Type} (s : State) (see : State → α) : Option α :=
  match step s with
  | .next t => some (see t)
  | .fault _ => none
  | .refused _ => none

/-- LCDC 0x00: the display off. -/
def displayOff (s : State) : State := s.store Port.LCDC 0

/-- VI1: priority, one bit cleared, the pushed PC. -/
theorem test_service : stepped (displayOff { State.reset with ime := true, pc := 0x1234, mem := [(0xFF0F, 0x13),
    (0xFFFF, 0xFF)] })
    (fun t => (jumpView t, t.ime, t.load Port.IF, t.load 0xFFFD, t.load 0xFFFC)) =
    some ((0x0040, 0xFFFC, 20), false, 0x12, 0x12, 0x34) := by decide
/-- VI4 and VI6: a wake without service, and none with IME set and nothing enabled. -/
theorem test_halted : stepped (displayOff { State.reset with halted := true, mem := [(0xFF0F, 4)] })
      (fun t => (t.pc, t.halted, t.cost)) = some (0x0100, false, 4) ∧
    stepped (displayOff { State.reset with halted := true, ime := true, mem := [(0xFF0F, 4)] })
      (fun t => (t.pc, t.halted, t.cost)) = some (0x0100, true, 4) := by decide
/-- VI8: a request that bit 5 alone makes. -/
theorem test_unspecified_interrupt : stepped (displayOff { State.reset with ime := true, mem := [(0xFF0F, 0x20),
    (0xFFFF, 0x20)] })
    (fun t => t.pc) = none := by decide
/-- A step from reset fetches the blank image's NOP; the display is enabled (VD1). -/
theorem test_step_from_reset : stepped State.reset
    (fun t => (t.pc, t.display, t.load Port.STAT, t.load Port.IF, t.oamGate)) =
    some (0x0101, ⟨.spriteSearch, 4, true, false, false, true⟩, 0x06, 0x02, false) := by decide
/-- The placed word is what the next step runs: CALL with a zero operand word, and SWAP A. -/
theorem test_withFetchWord : stepped (State.reset.withFetchWord 8 0xCD) jumpView = some (0x0000, 0xFFFC, 24) ∧
    stepped (State.reset.withFetchWord 16 0x37CB) aluView = some (0x10, 0x00, 8) := by decide
/-- VT2 and VT7: overflow, reload and request, twice in one advance. -/
theorem test_tima : (timerAdvance 16 { State.reset with mem := [(0xFF05, 0xFF), (0xFF06, 0x42), (0xFF07, 5)] }).mem =
      [(0xFF05, 0x42), (0xFF06, 0x42), (0xFF07, 5), (0xFF0F, 4)] ∧
    (timerAdvance 32 { State.reset with mem := [(0xFF05, 0xFF), (0xFF06, 0xFF), (0xFF07, 5)] }).mem =
      [(0xFF05, 0xFF), (0xFF06, 0xFF), (0xFF07, 5), (0xFF0F, 4)] := by decide
/-- VT3. -/
theorem test_div : (timerAdvance 8 { State.reset with mem := [(0xFF04, 0x10)], timer := ⟨250, 0⟩ }).mem = [(0xFF04,
    0x11)] ∧
    (timerAdvance 8 { State.reset with mem := [(0xFF04, 0x10)], timer := ⟨250, 0⟩ }).timer.divAcc = 2 := by decide
/-- VD4: entry to V-blank. -/
theorem test_vblank_entry : (fun t => (t.display, t.mem))
    (displayAdvance 8 { State.reset with mem := [(0xFF44, 143)], display := ⟨.hBlank, 200, true, false, false, false⟩ }) =
    (⟨.vBlank, 3, true, true, true, false⟩, [(0xFF0F, 1), (0xFF41, 1), (0xFF44, 144)]) := by decide
/-- VM1: bank 0x20 of a type-1 controller reads bank 0x21. -/
theorem test_bank_alias : romOffset { State.reset with
    cart := { blankCartridge with kind := .type1 }, bank := { State.reset.bank with romBank :=
      0x20 } } 0x4000 = 0x84000 := by decide
/-- VP1: a background tile's eight columns. -/
theorem test_background : (List.range 9).map (columnGrey { State.reset with
      mem := [(0x8010, 0x0F), (0x8011, 0x33), (0x9800, 1), (0xFF47, 0xE4)] } 0) =
    [.g255, .g255, .g85, .g85, .g170, .g170, .g0, .g0, .g255] := by decide
/-- VP9: a flipped sprite in front of index 0. -/
theorem test_sprite_flip : (List.range 8).map (columnGrey { State.reset with
      mem := [(0x8010, 0x0F), (0x8011, 0x33), (0xFE00, 16), (0xFE01, 8), (0xFE02, 1), (0xFE03, 0x20), (0xFF40, 0x93),
        (0xFF48, 0xE4)] } 0) =
    [.g0, .g0, .g170, .g170, .g85, .g85, .g255, .g255] := by decide

/-! ## Witnesses: states and operands that meet the hypotheses of the statements, clause by clause -/

theorem writable_plain {s : State} {a : Word} (v : Byte) (h1 : a.toNat ≠ Port.LY) (h2 : region a ≠ .cartRam)
    (h3 : a.toNat ≠ Port.DMA) : s.Writable a v :=
  ⟨h1, fun h => absurd h h2, fun h => absurd h h3⟩

/-- Every pair at 0xC000, SP at 0xFFFC, two bytes of work RAM listed. -/
def ramState : State := start 0x45 0xC0 0x00 0xC0 0x00 0xC0 0x00 0 0xFFFC [(0xC000, 0x0F), (0xFFFC, 0x34), (0xFFFD, 0x12)]

/-- Every pair at 0x4000 and ROM bank 2, past the end of the blank image. -/
def outState : State := { start 0 0x40 0 0x40 0 0x40 0 0 0xA000 [] with bank := { State.reset.bank with romBank := 2 } }

/-- Every pair at LY, C = 0x44, SP at 0xFF46: a push of the high byte and a store both write LY. -/
def lyState : State := start 0x12 0xFF 0x44 0xFF 0x44 0xFF 0x44 0 0xFF45 []

/-- Every pair at DMA, whose read is unspecified. -/
def dmaState : State := start 0xC1 0xFF 0x46 0xFF 0x46 0xFF 0x46 0 0xFFFE []

/-- A type-3 cartridge with 8 KiB of enabled RAM, bank 0. -/
def cartState : State := { ramState with
  cart := { blankCartridge with kind := .type3, ramSize := some 0x2000 }, bank :=
    { State.reset.bank with ramEnabled := true } }

/-- A machine at P_EI_DELAY = 1. -/
def delayState : State := { ramState with params := { Config.decided with eiDelay := .one } }

theorem witness_DecodeInvertsEncode : (Instr.jr_e8 (-128)).wf = true ∧ (Instr.add_SP_e8 127).wf = true ∧
    Instr.stop.wf = true := by decide

theorem witness_EncodeInvertsDecode : decode .two [0x10, 0x77, 0xFF] = .ok (.stop, [0xFF]) ∧
    decode .one [0x10, 0x77] = .ok (.stop, [0x77]) ∧
      decode .two [0xCB, 0xFF, 0x00] = .ok (.set_7_A, [0x00]) := ⟨rfl, rfl, rfl⟩

theorem witness_LengthFromFirstByte : decode .one (0x10 :: [0x77]) = .ok (.stop, [0x77]) ∧
    decode .two (0xFF :: []) = .ok (.rst_38, []) ∧
      decode .two (0xFA :: [0, 0, 1]) = .ok (.ld_A_ma16 0, [1]) := ⟨rfl, rfl, rfl⟩

theorem witness_AddressDecode :
    (∀ a ∈ ([0xC000, 0xDFFF, 0xE000, 0xFDFF, 0xFF01, 0xFF0F, 0xFF7F, 0xFF80, 0xFFFE, 0xFFFF] : List Word),
      plainAddress a = true) ∧
    region 0xC000 = .wram ∧ region 0xDFFF = .wram ∧ region 0xE000 = .echo ∧ region 0xFDFF = .echo :=
  ⟨by simp [plainAddress, region], by decide, by decide, by decide, by decide⟩

theorem witness_GatedRegions :
    (region 0x8000 = .vram ∧ region 0x9FFF = .vram ∧ region 0xFE00 = .oam ∧ region 0xFE9F = .oam) ∧
    (State.reset.vramGate = true ∧ State.reset.oamGate = true) ∧
    ({ State.reset with vramGate := false, oamGate := false } : State).vramGate = false ∧
    (0xFEA0 ≤ (0xFEA0 : Word).toNat ∧ (0xFEFF : Word).toNat ≤ 0xFEFF) := by decide

theorem witness_BankRegisterWrites :
    (State.reset.cart.kind = .none ∧ (0x7FFF : Word).toNat ≤ 0x7FFF) ∧ (cartState.cart.kind ≠ .none ∧
      (0x1FFF : Word).toNat ≤ 0x1FFF ∧ (0x2000 ≤ (0x2000 : Word).toNat ∧ (0x3FFF : Word).toNat ≤ 0x3FFF) ∧
      (0x4000 ≤ (0x4000 : Word).toNat ∧ (0x5FFF : Word).toNat ≤ 0x5FFF) ∧ 0x6000 ≤ (0x6000 : Word).toNat) ∧
    cartState.bank.bankingMode = 0 ∧ ({ cartState with bank := { cartState.bank with bankingMode := 1 } } :
      State).bank.bankingMode = 1 := by
  decide

/-- With the latch set the overlay, from 0x0100 on and with it clear the fixed bank; banks 1 and 2 of a switched window, in
range and out of range; the alias of bank 0x20. -/
theorem witness_CartridgeReads :
    (({ State.reset with booting := true } : State).booting = true ∧ (0x00FF : Word).toNat < 0x0100) ∧
    (0x0100 ≤ (0x0100 : Word).toNat ∧ State.reset.booting = false ∧ (0x3FFF : Word).toNat < State.reset.cart.romSize) ∧
    (State.reset.bank.romBank.toNat ≤ 1 ∧ (0x7FFF : Word).toNat < State.reset.cart.romSize) ∧
    (1 < outState.bank.romBank.toNat ∧ outState.cart.romSize ≤ 2 * 0x4000 + ((0x4000 : Word).toNat - 0x4000)) ∧
    ({ blankCartridge with kind := .type1 } : Cartridge).kind = .type1 ∧ (0x20#7).toNat ∈ [0x20, 0x40, 0x60] := by decide

theorem witness_CartridgeRam :
    (0xA000 ≤ (0xA000 : Word).toNat ∧ (0xBFFF : Word).toNat ≤ 0xBFFF) ∧
    (cartState.cart.ramSize = some 0x2000 ∧ cartState.bank.ramEnabled = true ∧ cartState.cart.kind ≠ .type2 ∧
      cartState.bank.ramBank.toNat * 0x2000 + ((0xBFFF : Word).toNat - 0xA000) < 0x2000 ∧
      0x2000 ≤ (1#2).toNat * 0x2000 + ((0xA000 : Word).toNat - 0xA000)) ∧
    State.reset.cart.ramSize = none ∧ ({ cartState with bank := State.reset.bank } :
      State).bank.ramEnabled = false := by decide

theorem witness_ObservedPorts : State.reset.params.joypad = .host ∧
    ({ State.reset with params := { Config.decided with joypad := .absent } } : State).params.joypad = .absent :=
      by decide

theorem witness_ConventionalJoypad :
    ({ State.reset with params := { Config.decided with joypad := .conventional } } :
      State).params.joypad = .conventional := by decide

/-- Every byte of the page 0xC1 is work RAM. -/
theorem dma_page_readable (s : State) : ∀ i < 160, s.Readable (pair 0xC1 0 + BitVec.ofNat 16 i) := by
  intro i hi off
  rw [show pair 0xC1 0 = 0xC100#16 from rfl]
  have hr : region (0xC100#16 + BitVec.ofNat 16 i) = .wram := by
    apply region_of_bounds <;> simp [Region.bounds] <;> omega
  unfold busView
  rw [hr]
  simp

theorem witness_DmaCopy : (∀ i < 160, ramState.Readable (pair 0xC1 0 + BitVec.ofNat 16 i)) ∧
    busView ramState (pair 0xC0 0 + BitVec.ofNat 16 0) = .stored 0x0F ∧ (0xC0 : Byte) ≠ 0xFE :=
  ⟨dma_page_readable ramState, by decide, by decide⟩

theorem witness_WriteFrame : (∃ t, memWrite 0xC000 0x77 ramState = .ok t) ∧ (∃ t, memWrite 0xFF46 0xC1 ramState = .ok t) ∧
    storesTo ramState 0xC000 .bus 0xC001 = false ∧ storesTo ramState 0xFF46 .bus 0xFEA0 = false ∧
      0x8000 ≤ (0x8000 : Word).toNat :=
  ⟨⟨_, rfl⟩, memWrite_of_writable ⟨by decide, fun h => absurd h (by decide), fun _ => witness_DmaCopy.1⟩,
    by decide, by decide, by decide⟩

theorem witness_TwoByteAccesses :
    (ramState.Reads 0xFFFC 0x34 ramState ∧ ramState.Reads (0xFFFC + 1) 0x12 ramState) ∧
      (∃ t, memWrite 0xC000 (lo 0x1234) ramState = .ok t) ∧
    cartState.cart.kind ≠ .none ∧ ramState.PushWritable 0x1234 ∧ ramState.ReadsWord ramState.sp 0x1234 ramState ∧
    plainAddress (ramState.sp - 1) = true ∧ plainAddress (ramState.sp - 2) = true :=
  ⟨⟨.stored rfl, .stored rfl⟩, ⟨_, rfl⟩, by decide,
    ⟨writable_plain _ (by decide) (by decide) (by decide), writable_plain _ (by decide) (by decide) (by decide)⟩,
    ⟨0x34, 0x12, ramState, .stored rfl, .stored rfl, rfl⟩, by decide, by decide⟩

theorem witness_RegisterAndImmediateLoads : ramState.Writable ramState.hl 0x5A ∧
    ∃ f, memWrite lyState.hl 0x5A lyState = .error f :=
  ⟨writable_plain _ (by decide) (by decide) (by decide), ⟨_, rfl⟩⟩

/-- A stored byte and an unspecified one at each pair and at an absolute address, and an address past the image. -/
theorem witness_MemoryLoads :
    (ramState.Reads ramState.hl 0x0F ramState ∧ ramState.Reads (pair ramState.regs.b ramState.regs.c) 0x0F ramState ∧
      ramState.Reads (pair ramState.regs.d ramState.regs.e) 0x0F ramState ∧ ramState.Reads 0xC000 0x0F ramState) ∧
    dmaState.Reads dmaState.hl (Config.freeByte 0) { dmaState with draws := 1 } ∧
    (busView outState outState.hl = .outOfRange 0x8000 ∧ busView outState (outState.indirect .BC) = .outOfRange 0x8000 ∧
      busView outState (outState.indirect .DE) = .outOfRange 0x8000 ∧ busView outState 0x7FFF = .outOfRange 0xBFFF) :=
  ⟨⟨.stored rfl, .stored rfl, .stored rfl, .stored rfl⟩, .inr ⟨rfl, rfl, rfl⟩, by decide⟩

/-- DMA in C and the page of the switched ROM window in A. -/
def dmaRegs : Regs := { State.reset.regs with a := 0x40, c := 0x46 }

/-- An image that ends at offset 0x4064, inside the page in A. -/
def shortState : State := { State.reset with regs := dmaRegs, cart := { blankCartridge with romSize := 0x4064 } }

theorem short_page_readable : ∀ j < 100, shortState.Readable (pair shortState.regs.a 0 + BitVec.ofNat 16 j) := by
  intro j hj off
  have hn : (pair shortState.regs.a 0 + BitVec.ofNat 16 j).toNat = 0x4000 + j := by
    rw [show pair shortState.regs.a 0 = 0x4000#16 from rfl, BitVec.toNat_add, BitVec.toNat_ofNat, BitVec.toNat_ofNat]
    omega
  have hr : region (pair shortState.regs.a 0 + BitVec.ofNat 16 j) = .bankedRom := by
    apply region_of_bounds <;> simp only [Region.bounds] <;> omega
  have ho : romOffset shortState (pair shortState.regs.a 0 + BitVec.ofNat 16 j) < shortState.cart.romSize := by
    show (pair shortState.regs.a 0 + BitVec.ofNat 16 j).toNat < 0x4064
    omega
  unfold busView
  rw [hr]
  show cartByte shortState _ ≠ _
  unfold cartByte
  rw [if_pos ho]
  nofun

theorem witness_MemoryStores :
    (ramState.Writable ramState.hl (ramState.r8 .B) ∧
      ramState.Writable (pair ramState.regs.b ramState.regs.c) ramState.regs.a ∧
      ramState.Writable (pair ramState.regs.d ramState.regs.e) ramState.regs.a ∧
        ramState.Writable 0xFFFF ramState.regs.a ∧
      ramState.Writable ramState.hl ramState.regs.a) ∧
    (∃ f, memWrite lyState.hl (lyState.r8 .B) lyState = .error f) ∧
      (∃ f, memWrite (lyState.indirect .BC) lyState.regs.a lyState = .error f) ∧
    (∃ f, memWrite 0xFF44 lyState.regs.a lyState = .error f) ∧
    ((0x47 : Byte) ≠ 0x44 ∧ ((0x47 : Byte) = 0x46 → ∀ i < 160,
      ramState.Readable (pair ramState.regs.a 0 + BitVec.ofNat 16 i))) ∧
    (∀ i < 160, dmaState.Readable (pair dmaState.regs.a 0 + BitVec.ofNat 16 i)) ∧ dmaState.regs.c = 0x46 ∧
      lyState.regs.c = 0x44 ∧
    ((∀ j < 0, { outState with regs := dmaRegs }.Readable (pair dmaRegs.a 0 + BitVec.ofNat 16 j)) ∧
      busView { outState with regs := dmaRegs } (pair dmaRegs.a 0 + BitVec.ofNat 16 0) = .outOfRange 0x8000 ∧
        dmaRegs.c = 0x46) ∧
    ((∀ j < 100, shortState.Readable (pair shortState.regs.a 0 + BitVec.ofNat 16 j)) ∧
      busView shortState (pair shortState.regs.a 0 + BitVec.ofNat 16 100) = .outOfRange 0x4064) := by
  refine ⟨⟨?_, ?_, ?_, ?_, ?_⟩, ⟨_, rfl⟩, ⟨_, rfl⟩, ⟨_, rfl⟩, ⟨by decide, fun e => absurd e (by decide)⟩,
    dma_page_readable dmaState, rfl, rfl, ⟨fun j hj => absurd hj (by omega), by decide, rfl⟩, short_page_readable,
      by decide⟩ <;>
    exact writable_plain _ (by decide) (by decide) (by decide)

theorem witness_StackTransfers :
    (ramState.Writable 0xC000 (lo ramState.sp) ∧ ramState.Writable (0xC000 + 1) (hi ramState.sp)) ∧
    (∃ f, memWrite 0xFF44 (lo lyState.sp) lyState = .error f) ∧
    (∃ t f, memWrite 0xFF43 (lo lyState.sp) lyState = .ok t ∧ memWrite (0xFF43 + 1) (hi lyState.sp) t = .error f) ∧
    ramState.PushWritable (ramState.stackPair .AF) ∧ (∃ f, push16 (lyState.stackPair .AF) lyState = .error f) ∧
    ramState.ReadsWord ramState.sp 0x1234 ramState ∧ ∃ f, pop16 { outState with sp := 0x4000 } = .error f :=
  ⟨⟨writable_plain _ (by decide) (by decide) (by decide), writable_plain _ (by decide) (by decide) (by decide)⟩, ⟨_, rfl⟩,
    ⟨_, _, rfl, rfl⟩, ⟨writable_plain _ (by decide) (by decide) (by decide),
      writable_plain _ (by decide) (by decide) (by decide)⟩,
    ⟨_, rfl⟩, witness_TwoByteAccesses.2.2.2.2.1, ⟨_, rfl⟩⟩

/-- A register operand, the byte at HL stored and unspecified, and an address past the image. -/
theorem witness_AddWithCarry : ramState.OperandReads (.reg .B) 0xC0 ramState ∧ ramState.OperandReads .mHL 0x0F ramState ∧
    dmaState.OperandReads .mHL (Config.freeByte 0) { dmaState with draws := 1 } ∧
      busView outState outState.hl = .outOfRange 0x8000 :=
  ⟨⟨rfl, rfl⟩, .stored rfl, .inr ⟨rfl, rfl, rfl⟩, by decide⟩

theorem witness_SubtractAndCompare : ramState.OperandReads (.reg .A) 0x45 ramState ∧
    ramState.OperandReads .mHL 0x0F ramState ∧
    busView outState outState.hl = .outOfRange 0x8000 := ⟨⟨rfl, rfl⟩, .stored rfl, by decide⟩

theorem witness_LogicalOperations : ramState.OperandReads (.reg .L) 0 ramState ∧
    ramState.OperandReads .mHL 0x0F ramState ∧
    busView outState outState.hl = .outOfRange 0x8000 := ⟨⟨rfl, rfl⟩, .stored rfl, by decide⟩

/-- Bytes 0xFF and 0x00, where Z and H change; a read and a write that fault. -/
theorem witness_IncrementDecrement :
    (({ ramState with mem := [(0xC000, 0xFF)] } : State).Reads 0xC000 0xFF { ramState with mem := [(0xC000, 0xFF)] } ∧
      ramState.Reads ramState.hl 0x0F ramState ∧ ramState.Writable ramState.hl (0xFF + 1) ∧
        ramState.Writable ramState.hl (0 - 1)) ∧
    (∃ f, lyState.Reads lyState.hl 0 lyState ∧ memWrite lyState.hl (0 + 1) lyState = .error f) ∧
    (∃ f, memWrite lyState.hl (0 - 1) lyState = .error f) ∧ busView outState outState.hl = .outOfRange 0x8000 :=
  ⟨⟨.stored rfl, .stored rfl, writable_plain _ (by decide) (by decide) (by decide),
    writable_plain _ (by decide) (by decide) (by decide)⟩,
    ⟨_, .stored rfl, rfl⟩, ⟨_, rfl⟩, by decide⟩

/-- 99 and 0, 45 and 38. -/
theorem witness_DecimalArithmetic : (start 0x99 0 0 0 0 0 0 0x10 0 []).regs.a = decimalByte 99 ∧
    (start 0x99 0 0 0 0 0 0 0x10 0 []).regs.b = decimalByte 0 ∧
    (start 0x45 0x38 0 0 0 0 0 0 0 []).regs.a = decimalByte 45 ∧
      (start 0x45 0x38 0 0 0 0 0 0 0 []).regs.b = decimalByte 38 := by decide

theorem witness_SixteenBitArithmetic : (-128 : Int) ≤ -128 ∧ (-128 : Int) ≤ 127 ∧ (-128 : Int) ≤ 127 ∧
    (127 : Int) ≤ 127 := by decide

theorem witness_PrefixedRotates : ramState.Reads ramState.hl 0x0F ramState ∧
    ramState.Writable ramState.hl (rotate .rl 0x0F false).1 ∧
    (∃ f, lyState.Reads lyState.hl 0 lyState ∧ memWrite lyState.hl (rotate .swap 0 false).1 lyState = .error f) ∧
    busView outState outState.hl = .outOfRange 0x8000 :=
  ⟨.stored rfl, writable_plain _ (by decide) (by decide) (by decide), ⟨_, .stored rfl, rfl⟩, by decide⟩

theorem witness_BitOperations : (ramState.OperandReads (.reg .H) 0xC0 ramState ∧
    ramState.OperandReads .mHL 0x0F ramState) ∧
    (ramState.Reads ramState.hl 0x0F ramState ∧ ramState.Writable ramState.hl (clearBit 0x0F 0) ∧
      ramState.Writable ramState.hl (setBit 0x0F 7)) ∧
    (∃ f, lyState.Reads lyState.hl 0 lyState ∧ memWrite lyState.hl (clearBit 0 0) lyState = .error f) ∧
    (∃ f, memWrite lyState.hl (setBit 0 7) lyState = .error f) ∧ busView outState outState.hl = .outOfRange 0x8000 :=
  ⟨⟨⟨rfl, rfl⟩, .stored rfl⟩, ⟨.stored rfl, writable_plain _ (by decide) (by decide) (by decide),
    writable_plain _ (by decide) (by decide) (by decide)⟩,
    ⟨_, .stored rfl, rfl⟩, ⟨_, rfl⟩, by decide⟩

/-- Each condition holds and fails somewhere. -/
theorem witness_Jumps : ∀ c : Cond, condHolds c ⟨false, false, false, false⟩ ≠ condHolds c ⟨true, false, false,
    true⟩ := by
  intro c
  cases c <;> decide

theorem witness_Calls : ramState.PushWritable ramState.pc ∧ condHolds .NZ ramState.flags = true ∧
    condHolds .Z ramState.flags = false ∧
    ∃ f, push16 lyState.pc lyState = .error f :=
  ⟨⟨writable_plain _ (by decide) (by decide) (by decide), writable_plain _ (by decide) (by decide) (by decide)⟩,
    by decide, by decide, ⟨_, rfl⟩⟩

theorem witness_Returns : ramState.ReadsWord ramState.sp 0x1234 ramState ∧ condHolds .NC ramState.flags = true ∧
    condHolds .C ramState.flags = false ∧ ∃ f, pop16 { outState with sp := 0x4000 } = .error f :=
  ⟨witness_TwoByteAccesses.2.2.2.2.1, by decide, by decide, ⟨_, rfl⟩⟩

theorem witness_SystemInstructions : State.reset.params.eiDelay = .none ∧ delayState.params.eiDelay = .one ∧
    delayState.ime = false ∧ ({ delayState with ime := true } : State).ime = true := by decide

theorem witness_IllegalOpcodesFault : State.reset.fault = none ∧ State.reset.halted = false ∧ State.reset.ime = false ∧
    ({ ramState with pc := 0xC000, mem := [(0xC000, 0xFD)] } : State).Reads 0xC000 IllegalOp.xFD.byte
      { ramState with pc := 0xC000, mem := [(0xC000, 0xFD)] } :=
  ⟨rfl, rfl, rfl, .stored rfl⟩

theorem witness_StepTotalityAndCost : ∃ t, step State.reset = .next t := ⟨_, rfl⟩

/-- `INC A` at 0xC000, one byte, and `JR 5` at 0xFFFE, two bytes up to the end of the address space; the first byte past a
cartridge of 0x4000 bytes, and a jump whose opcode is the image's last byte. -/
theorem witness_StepRunsDecodedInstruction :
    (∃ s t : State, s.fault = none ∧ s.halted = false ∧ s.ime = true ∧ s.load Port.IF &&& s.load Port.IE = 0 ∧
      s.Fetches [0x3C] t ∧
      decode s.params.stopLen [0x3C] = .ok (.inc_A, [])) ∧
    (∃ s t : State, s.fault = none ∧ s.halted = false ∧ s.ime = false ∧ s.Fetches [0x18, 0x05] t ∧
      decode s.params.stopLen [0x18, 0x05] = .ok (.jr_e8 5, [])) ∧
    (∃ s : State, s.fault = none ∧ s.halted = false ∧ s.ime = false ∧ s.Fetches [] s ∧
      busView s s.pc = .outOfRange 0x4000) ∧
    ∃ s t : State, s.fault = none ∧ s.halted = false ∧ s.ime = false ∧ s.Fetches [0xC3] t ∧
      [0xC3].length < instrLength .two 0xC3 ∧
      busView t t.pc = .outOfRange 0x4000 :=
  ⟨⟨{ ramState with pc := 0xC000, ime := true, mem := [(0xC000, 0x3C)] }, _, rfl, rfl, rfl, by decide,
      ⟨_, .stored rfl, rfl⟩, rfl⟩,
    ⟨{ ramState with pc := 0xFFFE, mem := [(0xFFFE, 0x18), (0xFFFF, 0x05)] }, _, rfl, rfl, rfl,
      ⟨_, .stored rfl, _, .stored rfl, rfl⟩, rfl⟩,
    ⟨{ State.reset with pc := 0x4000, cart := { blankCartridge with romSize := 0x4000 } }, rfl, rfl, rfl, rfl, by decide⟩,
    ⟨{ State.reset with pc := 0x3FFF, cart := { blankCartridge with rom := [(0x3FFF, 0xC3)], romSize := 0x4000 } }, _,
      rfl, rfl, rfl,
      ⟨_, .stored rfl, rfl⟩, by decide, by decide⟩⟩

/-- The source's example: bits 0, 1 and 4 pending, all enabled; and the joypad source alone, with a push that faults. -/
theorem witness_InterruptService :
    (∃ s : State, s.fault = none ∧ s.ime = true ∧ bit (s.load Port.IF) InterruptSource.vblank.index = true ∧
      bit (s.load Port.IE) InterruptSource.vblank.index = true ∧ s.PushWritable s.pc) ∧
    ∃ (s : State) (f : Fault), s.fault = none ∧ s.ime = true ∧ bit (s.load Port.IF) InterruptSource.joypad.index = true ∧
      bit (s.load Port.IE) InterruptSource.joypad.index = true ∧
      (∀ j < InterruptSource.joypad.index, (bit (s.load Port.IF) j && bit (s.load Port.IE) j) = false) ∧
      push16 s.pc { s.store Port.IF (clearBit (s.load Port.IF) InterruptSource.joypad.index) with ime :=
        false } = .error f :=
  ⟨⟨{ ramState with ime := true, mem := [(0xFF0F, 0x13), (0xFFFF, 0xFF)] }, rfl, rfl, by decide, by decide,
      writable_plain _ (by decide) (by decide) (by decide), writable_plain _ (by decide) (by decide) (by decide)⟩,
    ⟨{ lyState with ime := true, mem := [(0xFF0F, 0x1F), (0xFFFF, 0x10)] }, _, rfl, rfl, by decide, by decide,
      by decide, rfl⟩⟩

/-- A halted machine with IF and IE as given. -/
def haltedAt (ime : Bool) (pending enabled : Byte) : State :=
  { start 0 0 0 0 0 0 0 0 0xFFFE [(0xFF0F, pending), (0xFFFF, enabled)] with halted := true, ime := ime }

/-- Nothing due with IME set; with IME clear bit 4, no bit and bit 7 alone, under both wake conditions; a due request of bit 5
alone. -/
theorem witness_HaltWakeAndIdle :
    ((haltedAt true 0x04 0x01).load Port.IF &&& (haltedAt true 0x04 0x01).load Port.IE = 0) ∧
    ((haltedAt false 0x10 0x01).load Port.IF &&& 0x1F ≠ 0 ∧
      (haltedAt false 0x10 0x10).load Port.IF &&& (haltedAt false 0x10 0x10).load Port.IE &&& 0x1F ≠ 0) ∧
    ((haltedAt false 0x00 0x1F).load Port.IF = 0 ∧
      (haltedAt false 0x10 0x01).load Port.IF &&& (haltedAt false 0x10 0x01).load Port.IE = 0) ∧
    ((haltedAt false 0x80 0x01).load Port.IF &&& 0x1F = 0 ∧ (haltedAt false 0x80 0x01).load Port.IF ≠ 0) ∧
    ((haltedAt true 0x20 0x20).load Port.IF &&& (haltedAt true 0x20 0x20).load Port.IE ≠ 0 ∧
      (haltedAt true 0x20 0x20).load Port.IF &&& (haltedAt true 0x20 0x20).load Port.IE &&& 0x1F = 0) := by decide

theorem witness_FaultsStop : ({ ramState with fault := some (.cartridgeOutOfRange 0) } :
    State).fault = some (.cartridgeOutOfRange 0) ∧
    ∃ (s : State) (f : Fault), s.fault = none ∧ s.params.divResetAcc = false ∧ step s = .fault f :=
  ⟨rfl, ⟨{ ramState with pc := 0xC000, mem := [(0xC000, 0xDD)] }, _, rfl, rfl, rfl⟩⟩

/-- RETI, EI at P_EI_DELAY = 0, and a NOP after an EI at P_EI_DELAY = 1. -/
theorem witness_OnlyEiAndRetiEnable : (∃ t, exec .reti ramState = .next t ∧ ramState.ime = false ∧ t.ime = true) ∧
    (∃ (s t : State), step s = .next t ∧ s.ime = false ∧ t.ime = true) ∧
    ∃ (s t : State), s.params.eiDelay = .one ∧ step s = .next t ∧ s.ime = false ∧ t.ime = true :=
  ⟨⟨_, rfl, rfl, rfl⟩, ⟨{ ramState with pc := 0xC000, mem := [(0xC000, 0xFB)] }, _, rfl, rfl, by decide⟩,
    ⟨{ ramState with pc := 0xC001, eiPending := true, params := { Config.decided with eiDelay := .one } }, _, rfl, rfl,
      rfl, by decide⟩⟩

theorem witness_StepKeepsImages : ∃ t, step { ramState with booting := true } = .next t ∧
    t.booting = true := ⟨_, rfl, by decide⟩

/-- A store, with a byte beside it, and an instruction that stores nothing. -/
theorem witness_StoreFrame : (∃ t, exec (Form.instr (.ldMR .B)) ramState = .next t) ∧
    (∀ a ∈ Form.storeAddresses (.ldMR .B) ramState, storesTo ramState a .bus 0xC001 = false) ∧
    (∃ t, exec (Form.instr .nop) ramState = .next t) ∧ Form.storeAddresses .nop ramState = [] := by
  refine ⟨?_, ?_, ⟨_, rfl⟩, rfl⟩
  · show ∃ t, exec .ld_mHL_B ramState = .next t
    exact ⟨_, rfl⟩
  · intro a ha
    simp only [Form.storeAddresses, List.mem_singleton] at ha
    subst ha
    decide

/-- A machine that is not at reset and meets the invariant, and its step. -/
theorem witness_StepKeepsInvariant : ramState.Inv ∧ ∃ t, step ramState = .next t := by
  refine ⟨?_, ⟨_, rfl⟩⟩
  exact
    { memory := ⟨by decide, by decide, by decide, by decide, by decide, by decide⟩
      display :=
        { disabled := fun _ => by decide
          clock := by decide
          line := show (ramState.load Port.LY).toNat < 144 by decide
          statMode := by decide
          statLyc := fun h => absurd h (by decide)
          vramGate := rfl
          oamGate := rfl }
      divAcc := by decide
      eiPending := fun _ => rfl
      eiMasked := fun h => absurd h (by decide)
      running := rfl }

/-- Images and unspecified values in canonical form that give a machine, with and without a bootstrap image. -/
theorem witness_ResetMeetsInvariant :
    Memory.wf .cartRom [(0x147, 0x03), (0x149, 0x03)] ∧
      (∀ image ∈ some [((0 : Nat), (0x31 : Byte))], Memory.wf .bootRom image) ∧
    Memory.wf .bus [(0x9000, 0x01), (0xC000, 0x02)] ∧ Memory.wf .cartRam [(0x7FFF, 0x77)] ∧
    ∀ (regs : Regs) (flags : Flags) (sp : Word) (boot : Option Memory), ∃ s,
      resetWith Config.decided [(0x147, 0x03), (0x149, 0x03)] 0x8000 boot
        ⟨regs, flags, sp, [(0x9000, 0x01), (0xC000, 0x02)], [(0x7FFF, 0x77)]⟩ = some s := by
  refine ⟨by decide, fun image h => by cases h; decide, by decide, by decide, fun regs flags sp boot => ?_⟩
  cases boot <;> exact ⟨_, rfl⟩

/-- A header of type 0x03 with RAM code 0x03, one of type 0x05, whose RAM code is not consulted, and one of type 0x00, each
long enough; type 0x04 and type 0x03 with RAM code 0x00, which give no machine (VZ5, VZ6). -/
theorem witness_ResetFromArguments :
    (Memory.read .cartRom [(0x147, 0x03), (0x149, 0x03)] 0x147 = 0x03 ∧
      Memory.read .cartRom [(0x147, 0x03), (0x149, 0x03)] 0x149 ∈ ([0x01, 0x02, 0x03] : List Byte) ∧ 0x149 < 0x8000) ∧
    (Memory.read .cartRom [(0x147, 0x05)] 0x147 = 0x05 ∧ Memory.read .cartRom [] 0x147 = 0x00) ∧
    Memory.read .cartRom [(0x147, 0x04)] 0x147 = 0x04 ∧
    (Memory.read .cartRom [(0x147, 0x03)] 0x147 = 0x03 ∧
      Memory.read .cartRom [(0x147, 0x03)] 0x149 ∉ ([0x01, 0x02, 0x03] : List Byte)) := by decide

/-- Disabled; enabled at TAC 5 below the overflow, and from it on. -/
theorem witness_TimerLaw : bit (State.reset.load Port.TAC) 2 = false ∧ bit 0x05#8 2 = true ∧ (0 + 16) / 16 < 256 - 254 ∧
    256 - 255 ≤ (0 + 16) / 16 := by decide

theorem witness_DisabledDisplay : bit ((displayOff State.reset).load Port.LCDC) 7 = false ∧
    State.reset.params.ifRetract = .tracked ∧
    ({ State.reset with params := { Config.decided with ifRetract := .always } } :
      State).params.ifRetract = .always := by decide

/-- The display enabled in a mode at a clock. -/
def displayAt (m : Mode) (clock : Nat) : State := { ramState with display := ⟨m, clock, true, false, false, false⟩ }

/-- An enabled display in each mode, one cycle before its threshold and at it. -/
theorem witness_DisplayModes : bit ((displayAt .hBlank 0).load Port.LCDC) 7 = true ∧ State.reset.display.enabled = false ∧
    (∀ m : Mode, (displayAt m 0).display.enabled = true ∧ (displayAt m 0).display.mode = m) ∧
    (74 + 4 < 79 ∧ 79 ≤ 75 + 4) ∧ (167 + 4 < 172 ∧ 172 ≤ 168 + 4) ∧ (200 + 4 < 205 ∧ 205 ≤ 201 + 4) ∧
      (4555 + 4 < 4560 ∧ 4560 ≤ 4556 + 4) :=
  ⟨by decide, by decide, fun _ => ⟨rfl, rfl⟩, by decide⟩

theorem witness_DisplayStatus : bit ((displayAt .hBlank 201).load Port.LCDC) 7 = true := by decide

theorem witness_DisplayRequests : bit ((displayAt .hBlank 201).load Port.LCDC) 7 = true ∧
    (displayAt .hBlank 201).params.ifRetract = .tracked ∧
    ({ displayAt .hBlank 201 with params := { Config.decided with ifRetract := .always } } :
      State).params.ifRetract = .always := by
  decide

theorem witness_LineRendering :
    (bit ((displayAt .pixelTransfer 168).load Port.LCDC) 7 = true ∧
      (displayAt .pixelTransfer 168).display.enabled = true ∧
      (displayAt .pixelTransfer 168).display.mode = .pixelTransfer ∧
        172 ≤ (displayAt .pixelTransfer 168).display.modeClock + 4) ∧
    ¬ ((displayAt .pixelTransfer 167).display.enabled = true ∧
      (displayAt .pixelTransfer 167).display.mode = .pixelTransfer ∧
      172 ≤ (displayAt .pixelTransfer 167).display.modeClock + 4) := by decide

/-- The window covers column 4 from WX = 11, not column 3; with it off and LCDC bit 0 set the background is drawn, and with
bit 0 clear white. -/
theorem witness_BackgroundAndWindow :
    (windowCovers { ramState with mem := [(0xFF40, 0xB1), (0xFF4B, 11)] } 0 4 = true ∧
      windowCovers { ramState with mem := [(0xFF40, 0xB1), (0xFF4B, 11)] } 0 3 = false) ∧
    (windowCovers ramState 0 0 = false ∧ bit (ramState.load Port.LCDC) 0 = true) ∧
    (windowCovers { ramState with mem := [(0xFF40, 0x90)] } 0 0 = false ∧
      bit (({ ramState with mem := [(0xFF40, 0x90)] } : State).load Port.LCDC) 0 = false) := by decide

/-- At P_OBJ_ENABLE = true with LCDC bit 1 clear, and at the decided value; a sprite whose first line is 0 and whose last is 7. -/
theorem witness_SpriteSelection :
    (({ ramState with params := { Config.decided with objEnable := true } } : State).params.objEnable = true ∧
      bit (ramState.load Port.LCDC) 1 = false) ∧ ramState.params.objEnable = false ∧
    (let s : State := { ramState with mem := [(0xFE00, 16)] }
     ((s.load (0xFE00 + 4 * 0)).toNat : Int) - 16 ≤ (0 : Nat) ∧
       ((7 : Nat) : Int) < (s.load (0xFE00 + 4 * 0)).toNat - 16 + (8 : Nat)) := by
  decide

/-- A sprite at y = 16, x = 8: line 0 and column 0, and its last line and column; colour index 0 and 3, behind index 0 and 1. -/
theorem witness_SpriteDrawing :
    (let p : Sprite := ⟨16, 8, 1, 0x60⟩
     p.y ≤ 0 + 16 ∧ 7 + 16 < p.y + 8 ∧ p.x ≤ 0 + 8 ∧ 7 < p.x) ∧
    (spriteIndex ramState 0 0 ⟨16, 8, 1, 0x80⟩ = some 0 ∧ spriteIndex ramState 0 8 ⟨16, 8, 1, 0x80⟩ = none) ∧
    spriteIndex { ramState with mem := [(0x8010, 0x80), (0x8011, 0x80)] } 0 0 ⟨16, 8, 1, 0x80⟩ = some 3 ∧
    bit 0x80#8 7 = true ∧ (1#2) ≠ 0 := by decide

end Sys2Proof.Tests
end

section
/-! PROOFS. The flag byte (10_state.md R22): what each bit of F is. -/

namespace Sys2Proof.Machine

/-- Every bit of F, by the sixteen settings of the flags. -/
theorem bits_flagByte (f : Flags) :
    bit (flagByte f) 7 = f.z ∧ bit (flagByte f) 6 = f.n ∧ bit (flagByte f) 5 = f.h ∧ bit (flagByte f) 4 = f.c ∧
      ∀ k < 4, bit (flagByte f) k = false := by
  obtain ⟨z, n, h, c⟩ := f
  decide +revert

/-- Packing the flags and unpacking them gives them back. -/
@[simp] theorem flagsOfByte_flagByte (f : Flags) : flagsOfByte (flagByte f) = f := by
  obtain ⟨hz, hn, hh, hc, -⟩ := bits_flagByte f
  simp only [flagsOfByte, hz, hn, hh, hc]

/-- Unpacking a byte and packing it again loses the low nibble of the byte, and nothing else. -/
theorem flagByte_flagsOfByte (v : Byte) : flagByte (flagsOfByte v) = v &&& 0xF0 := by
  obtain ⟨hz, hn, hh, hc, hlow⟩ := bits_flagByte (flagsOfByte v)
  refine byte_ext fun i hi => ?_
  have hmask : bit 0xF0 i = decide (4 ≤ i) := by decide +revert
  rw [bit_and, hmask]
  by_cases h4 : i < 4
  · simp [hlow i h4, h4]
  · rw [decide_eq_true (Nat.not_lt.1 h4), Bool.and_true]
    obtain rfl | rfl | rfl | rfl : i = 4 ∨ i = 5 ∨ i = 6 ∨ i = 7 := by omega
    exacts [hc, hh, hn, hz]

/-- Settles O7, bit by bit. -/
theorem flagRegisterPacking : Obligations.FlagRegisterPacking := fun f => by
  obtain ⟨hz, hn, hh, hc, hlow⟩ := bits_flagByte f
  exact ⟨hz, hn, hh, hc, hlow, flagsOfByte_flagByte f, flagByte_flagsOfByte⟩

end Sys2Proof.Machine
end

section
/-! PROOFS. A step taken apart (60_exceptions.md R320, R321, R324): what a completed step, a faulting step, a completed fetch
and execution ran through. -/

namespace Sys2Proof.Machine

/-- A completed step ran the processor's part in a state without a fault, and then the devices' advance. -/
theorem step_next {s t : State} (h : step s = .next t) :
    s.fault = none ∧ ∃ u, processorPart s = .next u ∧ t = advance u.cost u := by
  unfold step machineStep at h
  split at h
  · cases h
  · next hf =>
    split at h <;> cases h
    exact ⟨hf, _, ‹_›, rfl⟩

/-- A faulted state answers its fault again. -/
theorem step_of_faulted {s : State} {k : FaultKind} (h : s.fault = some k) : step s = .fault (k.toFault s) := by
  simp only [step, machineStep, h]

/-- A step that faults in a state without a fault faults in the processor's part. -/
theorem step_fault {s : State} {f : Fault} (hs : s.fault = none) (h : step s = .fault f) : processorPart s = .fault f := by
  simp only [step, machineStep, hs] at h
  split at h <;> cases h
  assumption

/-- A completed execute path fetched an instruction, executed it, and settled a delayed EI. -/
theorem execute_next {s t : State} (h : execute s = .next t) :
    ∃ i u v, fetchInstr s = .ok (i, u) ∧ exec i u = .next v ∧ t = settleEi (eiArmed s) v := by
  unfold execute at h
  split at h
  · cases h
  · next i u hfetch =>
    split at h <;> cases h
    exact ⟨i, u, _, hfetch, ‹_›, rfl⟩

end Sys2Proof.Machine
end

section
/-! PROOFS. Faults stop the machine (10_state.md R36; 60_exceptions.md R320, R330). -/

namespace Sys2Proof.Machine

/-- A step that faults stopped in a state that the processor's part had reached, before the devices advanced. -/
theorem step_fault_stopped {s : State} {f : Fault} (hs : s.fault = none) (h : step s = .fault f) :
    ∃ (k : FaultKind) (t : State), f = k.toFault (t.stopped k) ∧ Keeps s t := by
  have hw := within_processorPart s
  rw [step_fault hs h] at hw
  exact hw

/-- Settles O42: the final state is a stopped one, which keeps what the processor's part keeps. -/
theorem faultsStop : Obligations.FaultsStop := by
  refine ⟨fun s k hk => step_of_faulted hk, fun s f hs h => ?_⟩
  obtain ⟨k, t, rfl, hkeeps⟩ := step_fault_stopped hs h
  rw [FaultKind.final_toFault]
  refine ⟨⟨k, rfl, step_of_faulted rfl⟩, rfl, hkeeps.display, hkeeps.frame, ?_, fun hp => ?_, hkeeps.ly⟩
  · show t.timer.timaAcc = s.timer.timaAcc
    rcases hkeeps.timer with e | ⟨_, e⟩ <;> rw [e]
  · rcases hkeeps.timer with e | ⟨hreset, _⟩
    · exact e
    · rw [hp] at hreset; cases hreset

end Sys2Proof.Machine
end

section
/-! PROOFS. What sets the master interrupt enable (10_state.md R27; 45_system.md R304; 60_exceptions.md R333). -/

namespace Sys2Proof.Machine

/-- Of the instructions only RETI, and EI at P_EI_DELAY = 0, set IME. -/
theorem exec_sets_ime {i : Instr} {s t : State} (h : exec i s = .next t) (hs : s.ime = false) (ht : t.ime = true) :
    i = .reti ∨ i = .ei ∧ s.params.eiDelay = .none := by
  rcases exec_enables h with rfl | rfl | rfl | hsame
  · refine .inr ⟨rfl, ?_⟩
    have h : opEi s = .next t := h
    cases hd : s.params.eiDelay with
    | none => rfl
    | one =>
      simp only [opEi, hd, hs] at h
      cases h
      cases ht
  · have h : opDi s = .next t := h
    unfold opDi at h
    split at h <;> (cases h; cases ht)
  · exact .inl rfl
  · rw [hsame.ime, hs] at ht
    cases ht

@[simp] theorem eiArmed_eq_true {s : State} : eiArmed s = true ↔ s.params.eiDelay = .one ∧ s.eiPending = true := by
  simp [eiArmed]

/-- The end of the execute path sets IME only for an armed EI. -/
theorem settleEi_sets_ime {armed : Bool} {s : State} (h : (settleEi armed s).ime = true) : armed = true ∨ s.ime = true := by
  unfold settleEi at h
  split at h
  · next hc => exact .inl (Bool.and_eq_true_iff.1 hc).1
  · exact .inr h

/-- With IME clear no interrupt is serviced, so a processor's part that sets it took the execute path. -/
theorem processorPart_sets_ime {s t : State} (h : processorPart s = .next t) (hs : s.ime = false) (ht : t.ime = true) :
    execute s = .next t := by
  simp only [processorPart, hs, Bool.false_and, Bool.false_eq_true, if_false] at h
  split_ifs at h
  · cases h; cases ht
  · cases h
  · cases h; exact absurd (hs.symm.trans ht) Bool.false_ne_true
  · exact h

@[simp] theorem advance_ime (c : Nat) (s : State) : (advance c s).ime = s.ime := by rw [(advances_advance c s).same]

/-- What a step that sets IME did. -/
theorem step_sets_ime {s t : State} (h : step s = .next t) (hs : s.ime = false) (ht : t.ime = true) :
    (∃ u, fetchInstr s = .ok (.reti, u)) ∨ (s.params.eiDelay = .none ∧ ∃ u, fetchInstr s = .ok (.ei, u)) ∨
      (s.params.eiDelay = .one ∧ s.eiPending = true) := by
  obtain ⟨-, u, hpart, rfl⟩ := step_next h
  rw [advance_ime] at ht
  obtain ⟨i, v, w, hfetch, hexec, rfl⟩ := execute_next (processorPart_sets_ime hpart hs ht)
  rcases settleEi_sets_ime ht with harmed | hw
  · exact .inr (.inr (eiArmed_eq_true.1 harmed))
  · have hv : v.ime = false := (enables_fetchInstr hfetch).ime.trans hs
    have hparams : v.params = s.params := ((withinVal_fetchInstr s).1 i v hfetch).params
    rcases exec_sets_ime hexec hv hw with rfl | ⟨rfl, hdelay⟩
    · exact .inl ⟨v, hfetch⟩
    · exact .inr (.inl ⟨hparams ▸ hdelay, v, hfetch⟩)

/-- Settles O43, from what an instruction and what a step can do to IME. -/
theorem onlyEiAndRetiEnable : Obligations.OnlyEiAndRetiEnable :=
  ⟨fun _ _ _ => exec_sets_ime, fun _ _ => step_sets_ime⟩

end Sys2Proof.Machine
end

section
/-! PROOFS. Processor accesses, one equation per kind of address (20_memory.md R62 to R92). -/

namespace Sys2Proof.Machine

variable {s : State} {a : Word}

/-- The regions are the intervals of the table of R62, and nothing else. -/
theorem region_eq_iff {r : Region} : region a = r ↔ r.bounds.1 ≤ a.toNat ∧ a.toNat ≤ r.bounds.2 :=
  ⟨bounds_of_region, fun h => region_of_bounds h.1 h.2⟩

/-! ## Reads -/

theorem memRead_stored {v : Byte} (h : busView s a = .stored v) : memRead a s = .ok (v, s) :=
  memRead_of_reads (.stored h)

theorem memRead_unspecified (h : busView s a = .unspecified) :
    memRead a s = .ok (Config.freeByte s.draws, { s with draws := s.draws + 1 }) :=
  memRead_of_reads (.inr ⟨h, rfl, rfl⟩)

theorem busView_bankedRom (h : region a = .bankedRom) : busView s a = cartByte s (romOffset s a) := by
  simp only [busView, h]

theorem busView_fixedRom (h : region a = .fixedRom) (hoff : s.booting = false ∨ 0x0100 ≤ a.toNat) :
    busView s a = cartByte s a.toNat := by
  have hlatch : ¬ (s.booting = true ∧ a.toNat < 0x0100) := fun ⟨hb, hlt⟩ =>
    hoff.elim (fun hf => Bool.false_ne_true (hf.symm.trans hb)) hlt.not_ge
  simp only [busView, h, if_neg hlatch]

theorem busView_cartRam (h : region a = .cartRam) : busView s a = cartRamByte s a := by simp only [busView, h]

theorem memRead_vram (h : region a = .vram) (s : State) :
    memRead a s = .ok (if s.vramGate then s.load a.toNat else 0x00, s) :=
  memRead_stored (by simp only [busView, h])

theorem memRead_oam (h : region a = .oam) (s : State) :
    memRead a s = .ok (if s.oamGate then s.load a.toNat else 0x00, s) :=
  memRead_stored (by simp only [busView, h])

theorem memRead_unusable (h : region a = .unusable) (s : State) : memRead a s = .ok (0x00, s) :=
  memRead_stored (by simp only [busView, h])

/-- A read of plain storage returns the stored byte. -/
theorem memRead_plain (h : plainAddress a = true) (s : State) : memRead a s = .ok (s.load (storageKey a), s) := by
  refine memRead_stored ?_
  unfold plainAddress at h
  cases hr : region a <;> rw [hr] at h
  case io =>
    obtain ⟨hp1, -, -, -, hdma, -⟩ := of_decide_eq_true h
    simp only [busView, storageKey, hr, if_neg hp1, if_neg hdma]
  case wram | echo | hram | ie => simp only [busView, storageKey, hr]
  all_goals cases h

/-- A read inside the image gives the image's byte. -/
theorem memRead_of_cartByte_lt {off : Nat} (h : busView s a = cartByte s off) (hoff : off < s.cart.romSize) :
    memRead a s = .ok (s.byteAt .cartRom off, s) :=
  memRead_stored (by rw [h, cartByte, if_pos hoff]; rfl)

/-- A read past the image faults (R92). -/
theorem memRead_of_cartByte_ge {off : Nat} (h : busView s a = cartByte s off) (hoff : s.cart.romSize ≤ off) :
    memRead a s = .error (.cartridgeOutOfRange off (s.stopped (.cartridgeOutOfRange off))) :=
  memRead_outOfRange (by rw [h, cartByte, if_neg hoff.not_gt])

/-! ## Writes -/

/-- Below 0x8000 a write reaches the bank registers. -/
theorem memWrite_rom (h : a.toNat ≤ 0x7FFF) (v : Byte) (s : State) : memWrite a v s = .ok (writeBankRegs s a v) := by
  rcases Nat.lt_or_ge a.toNat 0x4000 with hlow | hhigh
  · simp only [memWrite, region_eq_iff (r := .fixedRom).2 ⟨Nat.zero_le _, Nat.le_of_lt_succ hlow⟩]
  · simp only [memWrite, region_eq_iff (r := .bankedRom).2 ⟨hhigh, h⟩]

theorem memWrite_vram (h : region a = .vram) (v : Byte) (s : State) :
    memWrite a v s = .ok (if s.vramGate then s.store a.toNat v else s) := by
  simp only [memWrite, h]

theorem memWrite_oam (h : region a = .oam) (v : Byte) (s : State) :
    memWrite a v s = .ok (if s.oamGate then s.store a.toNat v else s) := by
  simp only [memWrite, h]

theorem memWrite_unusable (h : region a = .unusable) (v : Byte) (s : State) : memWrite a v s = .ok s := by
  simp only [memWrite, h]

theorem memWrite_cartRam (h : region a = .cartRam) (v : Byte) (s : State) : memWrite a v s = writeCartRam s a v := by
  simp only [memWrite, h]

theorem memWrite_io (h : region a = .io) (v : Byte) (s : State) : memWrite a v s = writeIo s a v := by
  simp only [memWrite, h]

/-- A write of LY faults (R75). -/
theorem memWrite_ly (h : a.toNat = Port.LY) (v : Byte) (s : State) :
    memWrite a v s = raise (.unspecifiedWrite a v) s := by
  rw [memWrite_io (region_eq_iff.2 (by rw [h]; decide))]
  simp [writeIo, h]

/-- A write of DMA is the copy of R73. -/
theorem memWrite_dma (h : a.toNat = Port.DMA) (v : Byte) (s : State) : memWrite a v s = dmaCopy v (List.range 160) s := by
  rw [memWrite_io (region_eq_iff.2 (by rw [h]; decide))]
  simp [writeIo, h]

/-- A write of plain storage stores the byte. -/
theorem memWrite_plain (h : plainAddress a = true) (v : Byte) (s : State) :
    memWrite a v s = .ok (s.store (storageKey a) v) := by
  unfold plainAddress at h
  cases hr : region a <;> rw [hr] at h
  case io =>
    obtain ⟨-, hsc, hdiv, hly, hdma, hboot⟩ := of_decide_eq_true h
    simp only [memWrite, writeIo, storageKey, hr, if_neg hsc, if_neg hdiv, if_neg hly, if_neg hdma, if_neg hboot]
  case wram | echo | hram | ie => simp only [memWrite, storageKey, hr]
  all_goals cases h

end Sys2Proof.Machine
end

section
/-! PROOFS. What a processor write leaves alone (20_memory.md R60 to R93), said once of the state before and the state after. -/

namespace Sys2Proof.Machine

/-- What a completed write at `a` can have changed: bytes that `storesTo` names, the banks below 0x8000, and the timer, the
latch, the serial log and the draw count each by its own port. -/
structure Wrote (a : Word) (s t : State) : Prop where
  bytes     : ∀ st k, storesTo s a st k = false → t.byteAt st k = s.byteAt st k
  same      : t = { s with mem := t.mem, cartRam := t.cartRam, bank := t.bank, timer := t.timer, booting := t.booting,
                           serialLog := t.serialLog, draws := t.draws }
  bank      : 0x8000 ≤ a.toNat → t.bank = s.bank
  timer     : a.toNat ≠ Port.DIV → t.timer = s.timer
  booting   : a.toNat ≠ Port.BOOT → t.booting = s.booting
  serialLog : a.toNat ≠ Port.SC → t.serialLog = s.serialLog
  draws     : a.toNat ≠ Port.DMA → t.draws = s.draws

variable {a : Word} {s : State}

theorem wrote_nothing (a : Word) (s : State) : Wrote a s s :=
  ⟨fun _ _ _ => rfl, rfl, fun _ => rfl, fun _ => rfl, fun _ => rfl, fun _ => rfl, fun _ => rfl⟩

/-- A store changes the one byte at its key. -/
theorem byteAt_store (s : State) {k j : Nat} (v : Byte) {st : Store} (h : ¬ (st = .bus ∧ j = k)) :
    (s.store k v).byteAt st j = s.byteAt st j := by
  cases st
  case bus => exact State.load_store_ne s v fun hj => h ⟨rfl, hj⟩
  all_goals rfl

theorem wrote_store {k : Nat} (h : storesTo s a .bus k = true) (v : Byte) : Wrote a s (s.store k v) where
  bytes := fun st j hj => byteAt_store s v fun ⟨hst, hjk⟩ => by
    rw [hst, hjk, h] at hj
    cases hj
  same := rfl
  bank := fun _ => rfl
  timer := fun _ => rfl
  booting := fun _ => rfl
  serialLog := fun _ => rfl
  draws := fun _ => rfl

theorem wrote_writeBankRegs (h : a.toNat ≤ 0x7FFF) (v : Byte) : Wrote a s (writeBankRegs s a v) := by
  have hbank : 0x8000 ≤ a.toNat → ∀ b, b = s.bank := fun h' => absurd h' (by omega)
  unfold writeBankRegs
  split_ifs
  · exact wrote_nothing a s
  all_goals exact ⟨fun st _ _ => by cases st <;> rfl, rfl, fun h' => hbank h' _, fun _ => rfl, fun _ => rfl, fun _ => rfl,
    fun _ => rfl⟩

theorem wrote_writeCartRam {t : State} {v : Byte} (hr : region a = .cartRam) (h : writeCartRam s a v = .ok t) :
    Wrote a s t := by
  unfold writeCartRam at h
  split at h
  · cases h; exact wrote_nothing a s
  · split_ifs at h <;> cases h
    · refine ⟨fun st k hk => ?_, rfl, fun _ => rfl, fun _ => rfl, fun _ => rfl, fun _ => rfl, fun _ => rfl⟩
      cases st
      case cartRam =>
        refine Memory.read_write_ne _ _ fun e => ?_
        simp [storesTo, hr, e] at hk
      all_goals rfl
    · exact wrote_nothing a s

/-- A byte of the I/O block other than DMA is the one a write there may change. -/
theorem wrote_port {k : Nat} (hr : region a = .io) (hk : a.toNat = k) (hd : k ≠ Port.DMA) (v : Byte) :
    Wrote a s (s.store k v) :=
  wrote_store (by simp [storesTo, hr, hk, hd]) v

/-- A copy changes bytes of the sprite table alone. -/
theorem wrote_dma {t : State} (h : a.toNat = Port.DMA) (hc : Copies s t) : Wrote a s t where
  bytes := fun st k hk => by
    have hr : region a = .io := region_eq_iff.2 (by rw [h]; decide)
    rw [hc.same]
    cases st
    case bus => exact hc.load k (by simpa [storesTo, hr, h] using hk)
    all_goals rfl
  same := by rw [hc.same]
  bank := fun _ => by rw [hc.same]
  timer := fun _ => by rw [hc.same]
  booting := fun _ => by rw [hc.same]
  serialLog := fun _ => by rw [hc.same]
  draws := fun hd => absurd h hd

theorem wrote_writeIo {t : State} {v : Byte} (hr : region a = .io) (h : writeIo s a v = .ok t) : Wrote a s t := by
  unfold writeIo at h
  split at h
  · next hsc =>
    have hw : Wrote a s (s.store Port.SC v) := wrote_port hr hsc (by decide) v
    cases h
    split
    · exact { hw with same := rfl, serialLog := fun hn => absurd hsc hn }
    · exact hw
  split at h
  · next hdiv =>
    have hw : Wrote a s (s.store Port.DIV 0x00) := wrote_port hr hdiv (by decide) 0x00
    cases h
    split
    · exact { hw with same := rfl, timer := fun hn => absurd hdiv hn }
    · exact hw
  split at h
  · cases h
  split at h
  · next hdma => exact wrote_dma hdma (copies_of_dmaCopy (fun i hi => List.mem_range.1 hi) h).1
  next hdma =>
  split at h
  · next hboot =>
    have hw : Wrote a s (s.store Port.BOOT v) := wrote_port hr hboot (by decide) v
    cases h
    split
    · exact hw
    · exact { hw with same := rfl, booting := fun hn => absurd hboot hn }
  · cases h
    exact wrote_port hr rfl hdma v

/-- Everything a completed processor write can have changed. -/
theorem wrote_of_memWrite {t : State} {v : Byte} (h : memWrite a v s = .ok t) : Wrote a s t := by
  cases hr : region a
  case fixedRom | bankedRom =>
    have hb := bounds_of_region hr
    simp only [Region.bounds] at hb
    rw [memWrite_rom (by omega)] at h
    cases h
    exact wrote_writeBankRegs (by omega) v
  case vram =>
    rw [memWrite_vram hr] at h
    cases h
    split
    · exact wrote_store (by simp [storesTo, storageKey, hr]) v
    · exact wrote_nothing a s
  case oam =>
    rw [memWrite_oam hr] at h
    cases h
    split
    · exact wrote_store (by simp [storesTo, storageKey, hr]) v
    · exact wrote_nothing a s
  case unusable =>
    rw [memWrite_unusable hr] at h
    cases h
    exact wrote_nothing a s
  case cartRam =>
    rw [memWrite_cartRam hr] at h
    exact wrote_writeCartRam hr h
  case io =>
    rw [memWrite_io hr] at h
    exact wrote_writeIo hr h
  case wram | echo | hram | ie =>
    rw [memWrite_plain (by simp [plainAddress, hr])] at h
    cases h
    exact wrote_store (by simp [storesTo, hr]) v

/-- Settles O17: the frame of a write, by region and port. -/
theorem writeFrame : Obligations.WriteFrame := fun _ _ _ _ h => by
  have hw := wrote_of_memWrite h
  have hport : ∀ {a b : Word}, a ≠ b → a.toNat ≠ b.toNat := fun hn he => hn (BitVec.eq_of_toNat_eq he)
  exact ⟨hw.bytes, hw.same, hw.bank, fun hn => hw.timer (hport hn), fun hn => hw.booting (hport hn),
    fun hn => hw.serialLog (hport hn), fun hn => hw.draws (hport hn)⟩

end Sys2Proof.Machine
end

section
/-! PROOFS. Where an instruction stores (20_memory.md R93, R95; 40_load.md R130): a frame for its bytes of memory, composed from
the frames of its accesses. -/

namespace Sys2Proof.Machine

/-- Bytes that writes at the listed addresses, decoded in `s`, do not reach read in `t` as in `s`. -/
def StoresOnly (addresses : List Word) (s t : State) : Prop :=
  ∀ st k, (∀ a ∈ addresses, storesTo s a st k = false) → t.byteAt st k = s.byteAt st k

/-- The memories and what the decode of an address depends on. -/
structure SameMemories (s t : State) : Prop where
  mem     : t.mem = s.mem
  cartRam : t.cartRam = s.cartRam
  cart    : t.cart = s.cart
  bootRom : t.bootRom = s.bootRom
  bank    : t.bank = s.bank

theorem SameMemories.refl (s : State) : SameMemories s s := ⟨rfl, rfl, rfl, rfl, rfl⟩

theorem SameMemories.trans {s t u : State} (h : SameMemories s t) (k : SameMemories t u) : SameMemories s u :=
  ⟨k.mem.trans h.mem, k.cartRam.trans h.cartRam, k.cart.trans h.cart, k.bootRom.trans h.bootRom, k.bank.trans h.bank⟩

theorem SameMemories.byteAt {s t : State} (h : SameMemories s t) (st : Store) (k : Nat) : t.byteAt st k = s.byteAt st k := by
  cases st
  case bus => exact congrArg (Memory.read .bus · k) h.mem
  case cartRam => exact congrArg (Memory.read .cartRam · k) h.cartRam
  case cartRom => exact congrArg (fun c : Cartridge => c.rom.read .cartRom k) h.cart
  case bootRom => exact congrArg (Memory.read .bootRom · k) h.bootRom

/-- Which byte a write reaches depends on the cartridge and, in the cartridge RAM window alone, on the banks. -/
theorem storesTo_congr {s t : State} {a : Word} (hc : t.cart = s.cart) (hb : region a = .cartRam → t.bank = s.bank)
    (st : Store) (k : Nat) : storesTo t a st k = storesTo s a st k := by
  unfold storesTo
  cases hr : region a
  case cartRam =>
    have hoff : ramOffset t a = ramOffset s a := by simp only [ramOffset, hc, hb hr]
    simp only [hoff]
  all_goals rfl

/-! ## Composition -/

theorem SameMemories.storesOnly {s t : State} (h : SameMemories s t) (addresses : List Word) : StoresOnly addresses s t :=
  fun st k _ => h.byteAt st k

/-- Stores after a change that leaves the memories. -/
theorem SameMemories.before {addresses : List Word} {s t u : State} (h : SameMemories s t) (k : StoresOnly addresses t u) :
    StoresOnly addresses s u := fun st j hj =>
  (k st j fun a ha => (storesTo_congr h.cart (fun _ => h.bank) st j).trans (hj a ha)).trans (h.byteAt st j)

/-- Stores before a change that leaves the memories. -/
theorem StoresOnly.andThen {addresses : List Word} {s t u : State} (h : StoresOnly addresses s t) (k : SameMemories t u) :
    StoresOnly addresses s u := fun st j hj => (k.byteAt st j).trans (h st j hj)

theorem storesOnly_complete {addresses : List Word} {s t : State} {c : Nat} {r : Except Fault State}
    (h : complete c r = .next t) (hr : ∀ u, r = .ok u → StoresOnly addresses s u) : StoresOnly addresses s t := by
  obtain ⟨u, hu, rfl⟩ := complete_next h
  exact (hr u hu).andThen ⟨rfl, rfl, rfl, rfl, rfl⟩

theorem sameMemories_complete {s t : State} {c : Nat} {r : Except Fault State}
    (h : complete c r = .next t) (hr : ∀ u, r = .ok u → SameMemories s u) : SameMemories s t := by
  obtain ⟨u, hu, rfl⟩ := complete_next h
  exact (hr u hu).trans ⟨rfl, rfl, rfl, rfl, rfl⟩

/-! ## Accesses -/

theorem sameMemories_memRead {s t : State} {a : Word} {v : Byte} (h : memRead a s = .ok (v, t)) : SameMemories s t := by
  rcases reads_of_memRead h with ⟨-, rfl⟩ | ⟨-, -, rfl⟩ <;> exact ⟨rfl, rfl, rfl, rfl, rfl⟩

theorem sameMemories_pop16 {s t : State} {w : Word} (h : pop16 s = .ok (w, t)) : SameMemories s t := by
  obtain ⟨⟨l, u⟩, hlow, h⟩ := bind_ok h
  obtain ⟨⟨x, y⟩, hhigh, h⟩ := bind_ok h
  cases h
  have hu : SameMemories u { u with sp := u.sp + 1 } := ⟨rfl, rfl, rfl, rfl, rfl⟩
  exact ((sameMemories_memRead hlow).trans hu).trans ((sameMemories_memRead hhigh).trans ⟨rfl, rfl, rfl, rfl, rfl⟩)

theorem sameMemories_returnFromCall {s t : State} (h : returnFromCall s = .ok t) : SameMemories s t := by
  obtain ⟨⟨w, u⟩, hpop, h⟩ := bind_ok h
  cases h
  exact (sameMemories_pop16 hpop).trans ⟨rfl, rfl, rfl, rfl, rfl⟩

theorem storesOnly_memWrite {s t : State} {a : Word} {v : Byte} (h : memWrite a v s = .ok t) : StoresOnly [a] s t :=
  fun st k hk => (wrote_of_memWrite h).bytes st k (hk a List.mem_cons_self)

/-- A write of the neighbouring address leaves which byte an address reaches: the cartridge RAM window, whose decode takes the
banks, is not beside the addresses that set them. -/
theorem storesTo_of_memWrite {s t : State} {a b : Word} {v : Byte} (hab : b = a + 1 ∨ a = b + 1)
    (h : memWrite a v s = .ok t) (st : Store) (k : Nat) : storesTo t b st k = storesTo s b st k := by
  refine storesTo_congr (access_of_memWrite h).keeps.cart (fun hr => (wrote_of_memWrite h).bank ?_) st k
  have hwindow : 0xA000 ≤ b.toNat ∧ b.toNat ≤ 0xBFFF := bounds_of_region hr
  have hnext : b.toNat = (a.toNat + 1) % 65536 ∨ a.toNat = (b.toNat + 1) % 65536 :=
    hab.imp (fun e => by rw [e, BitVec.toNat_add]; rfl) fun e => by rw [e, BitVec.toNat_add]; rfl
  omega

/-- Two writes at neighbouring addresses, with a change that leaves the memories between them. -/
theorem storesOnly_memWrite_memWrite {s t t' u : State} {a b : Word} {v w : Byte} (hab : b = a + 1 ∨ a = b + 1)
    (h1 : memWrite a v s = .ok t) (h' : SameMemories t t') (h2 : memWrite b w t' = .ok u) : StoresOnly [a, b] s u :=
  fun st k hk => by
    have ha : storesTo s a st k = false := hk a (by simp)
    have hb : storesTo s b st k = false := hk b (by simp)
    have hb' : storesTo t' b st k = false :=
      (storesTo_congr h'.cart (fun _ => h'.bank) st k).trans ((storesTo_of_memWrite hab h1 st k).trans hb)
    calc u.byteAt st k
      _ = t'.byteAt st k := (wrote_of_memWrite h2).bytes st k hb'
      _ = t.byteAt st k := h'.byteAt st k
      _ = s.byteAt st k := (wrote_of_memWrite h1).bytes st k ha

theorem storesOnly_memWrite16 {s t : State} {a v : Word} (h : memWrite16 a v s = .ok t) : StoresOnly [a, a + 1] s t := by
  obtain ⟨u, hlow, hhigh⟩ := bind_ok h
  exact storesOnly_memWrite_memWrite (.inl rfl) hlow (.refl u) hhigh

theorem storesOnly_push16 {s t : State} {v : Word} (h : push16 v s = .ok t) :
    StoresOnly [s.sp - 1, s.sp - 2] s t := by
  obtain ⟨u, hhigh, hlow⟩ := bind_ok h
  have hsp : u.sp - 1 = s.sp - 2 := by rw [(access_of_memWrite hhigh).core.sp, sub_one_sub_one]
  rw [hsp] at hlow
  have hs : SameMemories s { s with sp := s.sp - 1 } := ⟨rfl, rfl, rfl, rfl, rfl⟩
  have hu : SameMemories u { u with sp := s.sp - 2 } := ⟨rfl, rfl, rfl, rfl, rfl⟩
  exact hs.before (storesOnly_memWrite_memWrite (.inr (by ring)) hhigh hu hlow)

/-! ## Operands -/

/-- The addresses that a write of an operand stores to. -/
def Operand8.addresses (x : Operand8) (s : State) : List Word :=
  match x with
  | .reg _ => []
  | .mHL => [s.hl]

theorem sameMemories_readOperand {s t : State} {x : Operand8} {v : Byte} (h : readOperand x s = .ok (v, t)) :
    SameMemories s t := by
  cases x with
  | reg r => cases h; exact .refl s
  | mHL => exact sameMemories_memRead h

theorem addresses_readOperand {s t : State} {x : Operand8} {v : Byte} (h : readOperand x s = .ok (v, t)) (y : Operand8) :
    Operand8.addresses y t = Operand8.addresses y s := by
  have hhl : t.hl = s.hl := by
    cases x with
    | reg r => cases h; rfl
    | mHL => exact (reads_of_memRead h).hl
  cases y <;> simp only [Operand8.addresses, hhl]

theorem storesOnly_writeOperand {s t : State} {x : Operand8} {v : Byte} (h : writeOperand x v s = .ok t) :
    StoresOnly (Operand8.addresses x s) s t := by
  cases x with
  | reg r => cases h; exact SameMemories.storesOnly ⟨rfl, rfl, rfl, rfl, rfl⟩ _
  | mHL => exact storesOnly_memWrite h

/-- An operand read and then written. -/
theorem storesOnly_updateOperand {s t u : State} {x : Operand8} {v w : Byte} (hread : readOperand x s = .ok (v, t))
    (hwrite : writeOperand x w t = .ok u) : StoresOnly (Operand8.addresses x s) s u := by
  rw [← addresses_readOperand hread x]
  exact (sameMemories_readOperand hread).before (storesOnly_writeOperand hwrite)

/-! ## Instructions -/

theorem storesOnly_pushJump {s t : State} {c : Nat} {w : Word} (h : opPushJump c w s = .next t) :
    StoresOnly [s.sp - 1, s.sp - 2] s t :=
  storesOnly_complete h fun u hu => by
    obtain ⟨v, hpush, hu⟩ := bind_ok hu
    cases hu
    exact (storesOnly_push16 hpush).andThen ⟨rfl, rfl, rfl, rfl, rfl⟩

theorem sameMemories_loadA {s t : State} {c : Nat} {a : Word} (h : opLoadA c a s = .next t) : SameMemories s t :=
  sameMemories_complete h fun u hu => by
    obtain ⟨⟨v, w⟩, hread, hu⟩ := bind_ok hu
    cases hu
    exact (sameMemories_memRead hread).trans ⟨rfl, rfl, rfl, rfl, rfl⟩

/-- A completed instruction changes no byte but at the addresses its form computes. -/
theorem storesOnly_meaning {f : Form} {s t : State} (h : Form.meaning f s = .next t) :
    StoresOnly (Form.storeAddresses f s) s t := by
  cases f with
  -- the stores of one byte
  | ldMR _ | ldMI _ | ldIndA _ | ldAbsA _ | ldhIA _ | ldCA => exact storesOnly_complete h fun u hu => storesOnly_memWrite hu
  | ldIncA | ldDecA =>
    refine storesOnly_complete h fun u hu => ?_
    obtain ⟨v, hwrite, hu⟩ := bind_ok hu
    cases hu
    exact (storesOnly_memWrite hwrite).andThen ⟨rfl, rfl, rfl, rfl, rfl⟩
  | incM | decM =>
    refine storesOnly_complete h fun u hu => ?_
    obtain ⟨⟨v, w⟩, hread, hu⟩ := bind_ok hu
    obtain ⟨y, hwrite, hu⟩ := bind_ok hu
    cases hu
    exact (storesOnly_updateOperand (x := .mHL) hread hwrite).andThen ⟨rfl, rfl, rfl, rfl, rfl⟩
  | rot o x =>
    rw [show Form.storeAddresses (.rot o x) s = Operand8.addresses x s by cases x <;> rfl]
    refine storesOnly_complete h fun u hu => ?_
    obtain ⟨⟨v, w⟩, hread, hu⟩ := bind_ok hu
    obtain ⟨y, hwrite, hu⟩ := bind_ok hu
    cases hu
    exact (storesOnly_updateOperand hread hwrite).andThen ⟨rfl, rfl, rfl, rfl, rfl⟩
  | res k x =>
    rw [show Form.storeAddresses (.res k x) s = Operand8.addresses x s by cases x <;> rfl]
    refine storesOnly_complete h fun u hu => ?_
    obtain ⟨⟨v, w⟩, hread, hwrite⟩ := bind_ok hu
    exact storesOnly_updateOperand hread hwrite
  | set k x =>
    rw [show Form.storeAddresses (.set k x) s = Operand8.addresses x s by cases x <;> rfl]
    refine storesOnly_complete h fun u hu => ?_
    obtain ⟨⟨v, w⟩, hread, hwrite⟩ := bind_ok hu
    exact storesOnly_updateOperand hread hwrite
  -- the stores of two bytes
  | ldAbsSP w => exact storesOnly_complete h fun u hu => storesOnly_memWrite16 hu
  | push q => exact storesOnly_complete h fun u hu => storesOnly_push16 hu
  | call w => exact storesOnly_pushJump h
  | rst r => exact storesOnly_pushJump h
  | callCC c w =>
    simp only [Form.meaning, opCallCC] at h
    simp only [Form.storeAddresses]
    split at h
    · next hc =>
      rw [if_pos hc]
      exact storesOnly_pushJump h
    · cases h
      exact SameMemories.storesOnly ⟨rfl, rfl, rfl, rfl, rfl⟩ _
  -- no store: a read, a pop, registers alone
  | ldAInd _ | ldAAbs _ | ldhAI _ | ldAC => exact (sameMemories_loadA h).storesOnly _
  | ldRM _ | ldAInc | ldADec =>
    refine (sameMemories_complete h fun u hu => ?_).storesOnly _
    obtain ⟨⟨v, w⟩, hread, hu⟩ := bind_ok hu
    cases hu
    exact (sameMemories_memRead hread).trans ⟨rfl, rfl, rfl, rfl, rfl⟩
  | alu _ _ | bit _ _ =>
    refine (sameMemories_complete h fun u hu => ?_).storesOnly _
    obtain ⟨⟨v, w⟩, hread, hu⟩ := bind_ok hu
    cases hu
    exact (sameMemories_readOperand hread).trans ⟨rfl, rfl, rfl, rfl, rfl⟩
  | pop q =>
    refine (sameMemories_complete h fun u hu => ?_).storesOnly _
    obtain ⟨⟨v, w⟩, hpop, hu⟩ := bind_ok hu
    cases hu
    exact (sameMemories_pop16 hpop).trans ⟨by simp, by simp, by simp, by simp, by simp⟩
  | ret => exact (sameMemories_complete h fun u hu => sameMemories_returnFromCall hu).storesOnly _
  | reti =>
    refine (sameMemories_complete h fun u hu => ?_).storesOnly _
    obtain ⟨v, hret, hu⟩ := bind_ok hu
    cases hu
    exact (sameMemories_returnFromCall hret).trans ⟨rfl, rfl, rfl, rfl, rfl⟩
  | retCC c =>
    simp only [Form.meaning, opRetCC] at h
    split at h
    · exact (sameMemories_complete h fun u hu => sameMemories_returnFromCall hu).storesOnly _
    · cases h
      exact SameMemories.storesOnly ⟨rfl, rfl, rfl, rfl, rfl⟩ _
  | ldRrI _ _ | incRr _ | decRr _ =>
    cases h
    exact SameMemories.storesOnly ⟨by simp, by simp, by simp, by simp, by simp⟩ _
  | jpCC c w =>
    simp only [Form.meaning, opJpCC] at h
    split at h <;> (cases h; exact SameMemories.storesOnly ⟨rfl, rfl, rfl, rfl, rfl⟩ _)
  | jrCC c e =>
    simp only [Form.meaning, opJrCC] at h
    split at h <;> (cases h; exact SameMemories.storesOnly ⟨rfl, rfl, rfl, rfl, rfl⟩ _)
  | di =>
    simp only [Form.meaning, opDi] at h
    split at h <;> (cases h; exact SameMemories.storesOnly ⟨rfl, rfl, rfl, rfl, rfl⟩ _)
  | ei =>
    simp only [Form.meaning, opEi] at h
    split at h
    · cases h; exact SameMemories.storesOnly ⟨rfl, rfl, rfl, rfl, rfl⟩ _
    · split at h <;> (cases h; exact SameMemories.storesOnly ⟨rfl, rfl, rfl, rfl, rfl⟩ _)
  | illegal op => cases h
  | _ => cases h; exact SameMemories.storesOnly ⟨rfl, rfl, rfl, rfl, rfl⟩ _

/-- Settles O45: each form's operation stores to the addresses of the form alone. -/
theorem storeFrame : Obligations.StoreFrame := fun f s t h => by
  rw [exec_instr] at h
  exact storesOnly_meaning h

end Sys2Proof.Machine
end

section
/-! PROOFS. The decode, the gates and the completion of a write (20_memory.md R58 to R79, R91, R92). -/

namespace Sys2Proof.Machine

/-- A write below 0x8000 changes nothing but the bank registers. -/
theorem writeBankRegs_same (s : State) (a : Word) (v : Byte) :
    writeBankRegs s a v = { s with bank := (writeBankRegs s a v).bank } := by
  unfold writeBankRegs
  split_ifs <;> rfl

theorem toNat_sub_echo {a : Word} (h : 0x2000 ≤ a.toNat) : (a - 0x2000).toNat = a.toNat - 0x2000 :=
  BitVec.toNat_sub_of_le (BitVec.le_def.2 h)

/-- The echo of an address is the work RAM 0x2000 below it (R64). -/
theorem echo_is_wram {a : Word} (h : region a = .echo) :
    storageKey a = storageKey (a - 0x2000) ∧ region (a - 0x2000) = .wram := by
  have hb : 0xE000 ≤ a.toNat ∧ a.toNat ≤ 0xFDFF := bounds_of_region h
  have hsub : (a - 0x2000).toNat = a.toNat - 0x2000 := toNat_sub_echo (by omega)
  have hw : region (a - 0x2000) = .wram := region_eq_iff.2 ⟨by rw [hsub]; show 0xC000 ≤ _; omega, by
    rw [hsub]; show _ ≤ 0xDFFF; omega⟩
  exact ⟨by rw [storageKey_echo h, storageKey_eq (by rw [hw]; decide), hsub], hw⟩

/-- Settles O8: the regions are intervals, and plain storage is read after write. -/
theorem addressDecode : Obligations.AddressDecode := by
  refine ⟨fun a => ?_, fun s a v h => ⟨(writeBankRegs s a v).bank, ?_⟩,
    fun s a v h => ⟨memWrite_plain h v s, memRead_plain h s, ?_⟩,
    fun a h => storageKey_eq (by rw [h]; decide), fun a => echo_is_wram⟩
  · simp only [region_eq_iff, Region.bounds, Nat.zero_le, true_and, and_self, Nat.le_antisymm_iff,
      and_comm (a := a.toNat ≤ 0xFFFF)]
  · rw [memWrite_rom h, ← writeBankRegs_same]
  · rw [memRead_plain h, State.load_store_same]

/-- Settles O9: what each region's equations say with its gate open and closed. -/
theorem gatedRegions : Obligations.GatedRegions := by
  refine fun s a v => ⟨fun hr hg => ?_, fun hr hg => ?_, fun hr hg => ?_, fun hr hg => ?_, fun h1 h2 => ?_⟩
  · simp [memRead_vram hr, memWrite_vram hr, hg]
  · simp [memRead_vram hr, memWrite_vram hr, hg]
  · simp [memRead_oam hr, memWrite_oam hr, hg]
  · simp [memRead_oam hr, memWrite_oam hr, hg]
  · have hr : region a = .unusable := region_eq_iff.2 ⟨h1, h2⟩
    exact ⟨memRead_unusable hr s, memWrite_unusable hr v s⟩

/-- A write of cartridge RAM that completes is inside the buffer, or the buffer is absent or disabled. -/
theorem readable_of_writeCartRam {s t : State} {a : Word} {v : Byte} (hr : region a = .cartRam)
    (h : writeCartRam s a v = .ok t) : s.Readable a := by
  intro off
  rw [busView_cartRam hr]
  unfold writeCartRam at h
  unfold cartRamByte
  split at h
  · simp
  · split_ifs at h with henabled hinside
    · simp [henabled, hinside]
    · cases h
    · simp [henabled]

/-- A write that completes met no fault. -/
theorem writable_of_memWrite_ok {s t : State} {a : Word} {v : Byte} (h : memWrite a v s = .ok t) : s.Writable a v := by
  refine ⟨fun hly => ?_, fun hr => ?_, fun hdma i hi => ?_⟩
  · rw [memWrite_ly hly] at h
    cases h
  · rw [memWrite_cartRam hr] at h
    exact readable_of_writeCartRam hr h
  · rw [memWrite_dma hdma] at h
    exact (copies_of_dmaCopy (fun j hj => List.mem_range.1 hj) h).2 i (List.mem_range.2 hi)

/-- Settles O16, in both directions. -/
theorem writeCompletesExactlyWhenWritable : Obligations.WriteCompletesExactlyWhenWritable := fun _ _ _ =>
  ⟨fun ⟨_, h⟩ => writable_of_memWrite_ok h, memWrite_of_writable⟩

end Sys2Proof.Machine
end

section
/-! PROOFS. The observed ports (20_memory.md R72 to R78) and the sprite-table copy of DMA (R73). -/

namespace Sys2Proof.Machine

theorem memRead_dma (s : State) : memRead 0xFF46 s = .ok (Config.freeByte s.draws, { s with draws := s.draws + 1 }) :=
  memRead_unspecified rfl

theorem memRead_p1 (s : State) : memRead 0xFF00 s = .ok (joypadByte s, s) := memRead_stored rfl

/-- An I/O byte whose reads no observer takes. -/
theorem memRead_io {a : Word} (hr : region a = .io) (hp1 : a.toNat ≠ Port.P1) (hdma : a.toNat ≠ Port.DMA) (s : State) :
    memRead a s = .ok (s.load a.toNat, s) :=
  memRead_stored (by simp only [busView, hr, if_neg hp1, if_neg hdma])

/-- Settles O13, port by port. -/
theorem observedPorts : Obligations.ObservedPorts := by
  refine fun s v => ⟨memRead_io rfl (by decide) (by decide) s, memRead_io rfl (by decide) (by decide) s,
    memRead_io rfl (by decide) (by decide) s, memRead_io rfl (by decide) (by decide) s, rfl, rfl, memWrite_ly rfl v s, ?_,
    fun hj => ?_, fun hj => ?_, rfl⟩
  · rw [memWrite_io rfl]
    simp [writeIo, State.load_store]
  · rw [memRead_p1, joypadByte, hj]
  · rw [memRead_p1, joypadByte, hj]

theorem toNat_pageAddress (v : Byte) {i : Nat} (hi : i < 256) :
    (pair v 0 + BitVec.ofNat 16 i).toNat = v.toNat * 256 + i := by
  have hv := v.isLt
  have hpair : (pair v 0).toNat = v.toNat * 256 := by
    rw [pair, BitVec.toNat_append, Nat.shiftLeft_eq]
    exact Nat.or_zero _
  rw [BitVec.toNat_add, hpair, BitVec.toNat_ofNat]
  omega

/-- The source of a copy is in the sprite table for page 0xFE alone. -/
theorem pageAddress_not_oam {v : Byte} (hv : v ≠ 0xFE) {i : Nat} (hi : i < 160) :
    region (pair v 0 + BitVec.ofNat 16 i) ≠ .oam := fun hr => by
  have hb : 0xFE00 ≤ _ ∧ _ ≤ 0xFE9F := bounds_of_region hr
  rw [toNat_pageAddress v (by omega)] at hb
  exact hv (BitVec.eq_of_toNat_eq (show v.toNat = 0xFE by omega))

/-- A copy from a page outside the sprite table leaves at each index passed the byte that stood at its source (R73). -/
theorem load_of_passes {s : State} {v : Byte} {u : Nat → State} (hv : v ≠ 0xFE) {n : Nat} (hn : n ≤ 160)
    (hc : ∀ i ≤ n, Copies s (u i))
    (hp : ∀ i < n, ∃ b w, (u i).Reads (pair v 0 + BitVec.ofNat 16 i) b w ∧ u (i + 1) = w.store (0xFE00 + i) b)
    {i : Nat} (hin : i < n) {b : Byte} (hb : busView s (pair v 0 + BitVec.ofNat 16 i) = .stored b) :
    (u n).load (0xFE00 + i) = b := by
  induction n with
  | zero => omega
  | succ n ih =>
    obtain ⟨c, w, hread, hstep⟩ := hp n (by omega)
    rw [hstep, State.load_store]
    by_cases hlast : i = n
    · subst hlast
      have hview : busView (u i) (pair v 0 + BitVec.ofNat 16 i) = .stored b :=
        ((hc i (by omega)).view (pageAddress_not_oam hv (by omega))).trans hb
      obtain ⟨hc, -⟩ | ⟨hc, -⟩ := hread
      · rw [if_pos rfl]
        exact BusByte.stored.inj (hc.symm.trans hview)
      · cases hc.symm.trans hview
    · rw [if_neg (by omega)]
      exact (hread.byteAt .bus _).trans (ih (by omega) (fun j hj => hc j (by omega)) (fun j hj => hp j (by omega)) (by omega))

/-- Settles O15: the passes of the copy are the states of the loop. -/
theorem dmaCopyLaw : Obligations.DmaCopy := by
  intro s v hr
  obtain ⟨u, h0, hcopy, hcopies, hpasses⟩ := dmaCopy_passes s v hr 160 (Nat.le_refl _)
  have hwhole := hcopies 160 (Nat.le_refl _)
  exact ⟨u, h0, (memWrite_dma rfl v s).trans hcopy, hpasses, hwhole.same, hwhole.load,
    fun i hi b hv hb => load_of_passes hv (Nat.le_refl _) hcopies hpasses hi hb, memRead_dma _⟩

end Sys2Proof.Machine
end

section
/-! PROOFS. The cartridge: the bank registers (20_memory.md R84 to R88), the image (R89, R90, R92) and the external RAM (R91). -/

namespace Sys2Proof.Machine

/-! ## Bit fields of a written byte (R84 to R87) -/

theorem low_nibble_iff (v : Byte) (n : BitVec 4) : v.extractLsb' 0 4 = n ↔ v.toNat % 16 = n.toNat := by
  rw [← BitVec.toNat_inj, BitVec.extractLsb'_toNat, Nat.shiftRight_zero]

/-- The low five bits of the ROM bank replaced. -/
theorem toNat_romBank_low (r : BitVec 7) (v : Byte) :
    (r.extractLsb' 5 2 ++ v.extractLsb' 0 5).toNat = r.toNat / 32 * 32 + v.toNat % 32 := by
  have hr := r.isLt
  rw [BitVec.toNat_append, BitVec.extractLsb'_toNat, BitVec.extractLsb'_toNat, Nat.shiftRight_zero,
    ← Nat.shiftLeft_add_eq_or_of_lt (Nat.mod_lt _ (by decide)), Nat.shiftLeft_eq, Nat.shiftRight_eq_div_pow]
  omega

/-- The high two bits of the ROM bank replaced. -/
theorem toNat_romBank_high (r : BitVec 7) (v : Byte) :
    (v.extractLsb' 0 2 ++ r.extractLsb' 0 5).toNat = v.toNat % 4 * 32 + r.toNat % 32 := by
  rw [BitVec.toNat_append, BitVec.extractLsb'_toNat, BitVec.extractLsb'_toNat, Nat.shiftRight_zero, Nat.shiftRight_zero,
    ← Nat.shiftLeft_add_eq_or_of_lt (Nat.mod_lt _ (by decide)), Nat.shiftLeft_eq]

theorem toNat_low_field (v : Byte) (n : Nat) : (v.extractLsb' 0 n).toNat = v.toNat % 2 ^ n := by
  rw [BitVec.extractLsb'_toNat, Nat.shiftRight_zero]

/-- Settles O10, by the four register windows. -/
theorem bankRegisterWrites : Obligations.BankRegisterWrites := by
  intro s a v
  refine ⟨fun hk h => ?_, fun hk h => ?_, fun hk h1 h2 => ⟨_, toNat_romBank_low _ v, ?_⟩,
    fun hk h1 h2 hm => ⟨_, toNat_low_field v 2, ?_⟩, fun hk h1 h2 hm => ⟨_, toNat_romBank_high _ v, ?_⟩,
    fun hk h1 h2 => ⟨_, toNat_low_field v 1, ?_⟩⟩ <;> rw [memWrite_rom (by omega), writeBankRegs]
  · rw [if_pos hk]
  · simp only [low_nibble_iff]
    rw [if_neg hk, if_pos (by omega)]
    rfl
  · rw [if_neg hk, if_neg (by omega), if_pos (by omega)]
  · rw [if_neg hk, if_neg (by omega), if_neg (by omega), if_pos (by omega)]
    exact congrArg Except.ok (if_pos hm)
  · rw [if_neg hk, if_neg (by omega), if_neg (by omega), if_pos (by omega), if_neg (by rw [hm]; decide)]
  · rw [if_neg hk, if_neg (by omega), if_neg (by omega), if_neg (by omega)]

/-! ## The image (R63, R89, R90, R92) -/

theorem memRead_bootRom {s : State} {a : Word} (hb : s.booting = true) (ha : a.toNat < 0x0100) :
    memRead a s = .ok (s.byteAt .bootRom a.toNat, s) := by
  have hr : region a = .fixedRom := region_eq_iff.2 ⟨Nat.zero_le _, ha.le.trans (by decide)⟩
  exact memRead_stored (by simp only [busView, hr, if_pos (And.intro hb ha)]; rfl)

/-- Banks 0 and 1 are the image's second window. -/
theorem romOffset_of_le_one {s : State} (a : Word) (h : s.bank.romBank.toNat ≤ 1) : romOffset s a = a.toNat := by
  have h01 : s.bank.romBank.toNat = 0 ∨ s.bank.romBank.toNat = 1 := by omega
  simp only [romOffset, if_pos h01]

/-- A higher bank is its own window of the image, with the bank skip of a type-1 controller (R89). -/
theorem romOffset_of_one_lt {s : State} (a : Word) (h : 1 < s.bank.romBank.toNat) :
    romOffset s a = (if s.cart.kind = .type1 ∧ s.bank.romBank.toNat ∈ [0x20, 0x40, 0x60] then s.bank.romBank.toNat + 1
      else s.bank.romBank.toNat) * 0x4000 + (a.toNat - 0x4000) := by
  have h01 : ¬ (s.bank.romBank.toNat = 0 ∨ s.bank.romBank.toNat = 1) := by omega
  simp only [romOffset, if_neg h01, List.mem_cons, List.not_mem_nil, or_false]

/-- Settles O11: each window shows the image at its offset. -/
theorem cartridgeReads : Obligations.CartridgeReads := by
  intro s a
  refine ⟨fun hb ha => memRead_bootRom hb ha, fun off hoff => ?_⟩
  suffices hview : busView s a = cartByte s off from ⟨memRead_of_cartByte_lt hview, memRead_of_cartByte_ge hview⟩
  rcases hoff with ⟨ha, hlatch, rfl⟩ | ⟨h1, h2, hbank, rfl⟩ | ⟨h1, h2, hbank, b, hoff, hb⟩
  · exact busView_fixedRom (region_eq_iff.2 ⟨Nat.zero_le _, ha⟩) hlatch
  · rw [busView_bankedRom (region_eq_iff.2 ⟨h1, h2⟩), romOffset_of_le_one a hbank]
  · rw [busView_bankedRom (region_eq_iff.2 ⟨h1, h2⟩), romOffset_of_one_lt a hbank, hoff, hb]

/-! ## The external RAM (R91, R92) -/

section

variable {s : State} {a : Word} {size : Nat}

/-- Present and enabled, a byte inside the buffer is stored. -/
theorem cartRamByte_inside (hsize : s.cart.ramSize = some size) (hen : s.bank.ramEnabled = true)
    (hlt : ramOffset s a < size) : cartRamByte s a = .stored (s.byteAt .cartRam (ramOffset s a)) := by
  simp only [cartRamByte, hsize, if_pos hen, if_pos hlt]
  rfl

theorem memRead_cartRam_inside (hr : region a = .cartRam) (hsize : s.cart.ramSize = some size)
    (hen : s.bank.ramEnabled = true) (hlt : ramOffset s a < size) :
    memRead a s = .ok (s.byteAt .cartRam (ramOffset s a), s) :=
  memRead_stored ((busView_cartRam hr).trans (cartRamByte_inside hsize hen hlt))

theorem cartRamByte_outside (hsize : s.cart.ramSize = some size) (hen : s.bank.ramEnabled = true)
    (hge : size ≤ ramOffset s a) : cartRamByte s a = .outOfRange (ramOffset s a) := by
  simp only [cartRamByte, hsize, if_pos hen, if_neg hge.not_gt]

theorem cartRamByte_absent (h : s.cart.ramSize = none ∨ s.bank.ramEnabled = false) : cartRamByte s a = .unspecified := by
  unfold cartRamByte
  split
  · rfl
  · next hsize =>
    obtain hnone | hoff := h
    · cases hsize.symm.trans hnone
    · simp only [hoff, Bool.false_eq_true, if_false]

theorem writeCartRam_inside (hsize : s.cart.ramSize = some size) (hen : s.bank.ramEnabled = true)
    (hlt : ramOffset s a < size) (v : Byte) :
    writeCartRam s a v = .ok { s with cartRam := s.cartRam.write .cartRam (ramOffset s a) v } := by
  simp only [writeCartRam, hsize, if_pos hen, if_pos hlt]

theorem writeCartRam_outside (hsize : s.cart.ramSize = some size) (hen : s.bank.ramEnabled = true)
    (hge : size ≤ ramOffset s a) (v : Byte) : writeCartRam s a v = raise (.cartridgeOutOfRange (ramOffset s a)) s := by
  simp only [writeCartRam, hsize, if_pos hen, if_neg hge.not_gt]

theorem writeCartRam_absent (h : s.cart.ramSize = none ∨ s.bank.ramEnabled = false) (v : Byte) :
    writeCartRam s a v = .ok s := by
  unfold writeCartRam
  split
  · rfl
  · next hsize =>
    obtain hnone | hoff := h
    · cases hsize.symm.trans hnone
    · simp only [hoff, Bool.false_eq_true, if_false]

end

/-- Settles O12: inside the buffer, outside it, and absent or disabled. -/
theorem cartridgeRam : Obligations.CartridgeRam := by
  intro s a v h1 h2
  have hr : region a = .cartRam := region_eq_iff.2 ⟨h1, h2⟩
  refine ⟨fun size off hsize hen hoff => ?_, fun habsent => ?_⟩
  · obtain rfl : off = ramOffset s a := hoff
    refine ⟨fun hlt => ⟨?_, ?_, ?_⟩, fun hge => ⟨?_, ?_⟩⟩
    · exact memRead_cartRam_inside hr hsize hen hlt
    · rw [memWrite_cartRam hr, writeCartRam_inside hsize hen hlt]
    · refine (memRead_cartRam_inside (s := { s with cartRam := s.cartRam.write .cartRam (ramOffset s a) v })
        hr hsize hen hlt).trans (congrArg (fun b => Except.ok (b, _)) ?_)
      exact Memory.read_write_same _ _ _
    · exact memRead_outOfRange ((busView_cartRam hr).trans (cartRamByte_outside hsize hen hge))
    · rw [memWrite_cartRam hr, writeCartRam_outside hsize hen hge]
      rfl
  · exact ⟨memRead_unspecified ((busView_cartRam hr).trans (cartRamByte_absent habsent)), by
      rw [memWrite_cartRam hr, writeCartRam_absent habsent]⟩

end Sys2Proof.Machine
end

section
/-! PROOFS. The conventional joypad synthesis (93_implementation_defined.md I12), bit by bit. -/

namespace Sys2Proof.Machine

/-- A bit cleared for a pressed button. -/
def clearIf (pressed : Bool) (v : Byte) (i : Nat) : Byte := if pressed then clearBit v i else v

/-- The low nibble after one group of buttons, whose select bit is 0 where the group is selected. -/
def clearGroup (deselected b0 b1 b2 b3 : Bool) (v : Byte) : Byte :=
  if deselected then v else clearIf b3 (clearIf b2 (clearIf b1 (clearIf b0 v 0) 1) 2) 3

/-- The synthesis is the two groups in turn. -/
theorem conventionalJoypad_eq (sel : Byte) (b : Buttons) :
    conventionalJoypad sel b = 0xC0 ||| (sel &&& 0x30) |||
      clearGroup (bit sel 5) b.a b.b b.select b.start (clearGroup (bit sel 4) b.right b.left b.up b.down 0x0F) := rfl

theorem bit_clearIf (pressed : Bool) (v : Byte) {i : Nat} (hi : i < 8) (j : Nat) :
    bit (clearIf pressed v i) j = (bit v j && !(pressed && decide (j = i))) := by
  cases pressed
  · simp [clearIf]
  · simp [clearIf, bit_clearBit v hi]

theorem bit_clearGroup (deselected b0 b1 b2 b3 : Bool) (v : Byte) (j : Nat) :
    bit (clearGroup deselected b0 b1 b2 b3 v) j = (bit v j && !(!deselected &&
      ((b0 && decide (j = 0)) || (b1 && decide (j = 1)) || (b2 && decide (j = 2)) || (b3 && decide (j = 3))))) := by
  cases deselected
  · simp [clearGroup, bit_clearIf, Bool.not_or, Bool.and_assoc]
  · simp [clearGroup]

theorem bit_0xC0 {i : Nat} (hi : i < 8) : bit 0xC0 i = decide (6 ≤ i) := by decide +revert

theorem bit_0x30 {i : Nat} (hi : i < 8) : bit 0x30 i = decide (i = 4 ∨ i = 5) := by decide +revert

theorem bit_0x0F {i : Nat} (hi : i < 8) : bit 0x0F i = decide (i < 4) := by decide +revert

/-- Every bit of the synthesis. -/
theorem bit_conventionalJoypad (sel : Byte) (b : Buttons) {i : Nat} (hi : i < 8) :
    bit (conventionalJoypad sel b) i = (decide (6 ≤ i) || (bit sel i && decide (i = 4 ∨ i = 5)) || (decide (i < 4) &&
      !(!bit sel 4 && ((b.right && decide (i = 0)) || (b.left && decide (i = 1)) || (b.up && decide (i = 2)) ||
        (b.down && decide (i = 3)))) &&
      !(!bit sel 5 && ((b.a && decide (i = 0)) || (b.b && decide (i = 1)) || (b.select && decide (i = 2)) ||
        (b.start && decide (i = 3)))))) := by
  rw [conventionalJoypad_eq, bit_or, bit_or, bit_and, bit_clearGroup, bit_clearGroup, bit_0xC0 hi, bit_0x30 hi, bit_0x0F hi]

/-- Settles O14: each bit of the synthesis, read off `bit_conventionalJoypad`. -/
theorem conventionalJoypadLaw : Obligations.ConventionalJoypad := by
  intro s hj
  refine ⟨conventionalJoypad (s.load Port.P1) s.buttons, by rw [memRead_p1, joypadByte, hj], ?_⟩
  refine ⟨?_, ?_, ?_, ?_, ?_, ?_, ?_, ?_⟩ <;> rw [bit_conventionalJoypad _ _ (by decide)] <;> simp

end Sys2Proof.Machine
end

section
/-! PROOFS. What no step changes, and what it changes one way (20_memory.md R74; 60_exceptions.md R345). -/

namespace Sys2Proof.Machine

/-- Settles O44: the processor's part keeps the images, and the devices' advance does not touch them. -/
theorem stepKeepsImages : Obligations.StepKeepsImages := by
  intro s t h
  obtain ⟨-, u, hpart, rfl⟩ := step_next h
  have hkeeps : Keeps s u := by
    have hw := within_processorPart s
    rwa [hpart] at hw
  rw [(advances_advance u.cost u).same]
  exact ⟨hkeeps.cart, hkeeps.bootRom, hkeeps.params, hkeeps.buttons, hkeeps.booting, hkeeps.serialLog⟩

end Sys2Proof.Machine
end

section
/-! PROOFS. Construction and reset from every argument (20_memory.md R80 to R83; 70_reset_and_hazards.md R420 to R426). -/

namespace Sys2Proof.Machine

/-! ## Construction (R80 to R83) -/

/-- The type codes with their controller kind and whether external RAM is present (the table of R80 and R81). -/
def typeTable : List (Byte × BankKind × Bool) :=
  [(0x00, .none, false), (0x01, .type1, false), (0x02, .type1, true), (0x03, .type1, true),
    (0x05, .type2, true), (0x06, .type2, true), (0x08, .none, true), (0x09, .none, true),
    (0x0F, .type3, false), (0x11, .type3, false), (0x10, .type3, true), (0x12, .type3, true), (0x13, .type3, true),
    (0x15, .type4, false), (0x16, .type4, true), (0x17, .type4, true),
    (0x19, .type5, false), (0x1C, .type5, false), (0x1A, .type5, true), (0x1B, .type5, true), (0x1D, .type5, true),
    (0x1E, .type5, true)]

/-- Each row of the table is what the decoder of type codes answers. -/
theorem cartridgeKind_of_row : ∀ row ∈ typeTable, cartridgeKind row.1 = some row.2 := by decide

/-- What the decoder of type codes answers is a row of the table, for each of the 256 codes. -/
theorem row_of_cartridgeKind : ∀ code : Byte, ∀ r ∈ cartridgeKind code, (code, r) ∈ typeTable := by decide

theorem mem_typeTable {code : Byte} {kind : BankKind} {present : Bool} :
    (code, kind, present) ∈ typeTable ↔ cartridgeKind code = some (kind, present) :=
  ⟨fun h => cartridgeKind_of_row _ h, row_of_cartridgeKind code _⟩

/-- The RAM-size codes of R82. -/
theorem ramSizeOfCode_of_mem {code : Byte} (h : code ∈ ([0x01, 0x02, 0x03] : List Byte)) :
    ramSizeOfCode code = some (if code = 0x01 then 2048 else if code = 0x02 then 8192 else 32768) := by
  simp only [List.mem_cons, List.not_mem_nil, or_false] at h
  rcases h with rfl | rfl | rfl <;> rfl

theorem ramSizeOfCode_of_not_mem :
    ∀ code : Byte, code ∉ ([0x01, 0x02, 0x03] : List Byte) → ramSizeOfCode code = none := by decide

/-- The buffer that a kind, the presence of RAM and a RAM-size code give (R82). -/
def ramOfCodes (kind : BankKind) (present : Bool) (sizeCode : Byte) : Option Nat :=
  if present = false then none else if kind = .type2 then some 512
    else if sizeCode = 0x01 then some 2048 else if sizeCode = 0x02 then some 8192 else some 32768

theorem externalRam_of_codes {kind : BankKind} {present : Bool} {sizeCode : Byte}
    (h : present = true → kind ≠ .type2 → sizeCode ∈ ([0x01, 0x02, 0x03] : List Byte)) :
    externalRam kind present sizeCode = some (ramOfCodes kind present sizeCode) := by
  cases present with
  | false => rfl
  | true =>
    by_cases hk : kind = .type2
    · simp [externalRam, ramOfCodes, hk]
    · simp only [externalRam, ramOfCodes, if_neg hk, ramSizeOfCode_of_mem (h rfl hk), Option.map_some, if_true,
        Bool.true_eq_false, if_false]
      simp only [apply_ite some]

variable {rom : Memory} {size : Nat}

/-- Codes the tables have, in an image long enough to hold them, give a cartridge. -/
theorem buildCartridge_of_codes {kind : BankKind} {present : Bool} {ram : Option Nat} (hsize : 0x149 < size)
    (hkind : cartridgeKind (rom.read .cartRom 0x147) = some (kind, present))
    (hram : externalRam kind present (rom.read .cartRom 0x149) = some ram) :
    buildCartridge rom size = some { rom := rom, romSize := size, kind := kind, ramSize := ram } := by
  simp only [buildCartridge, if_neg hsize.not_ge, hkind, hram]

/-- A type code the table has not gives no cartridge (R83). -/
theorem buildCartridge_of_unknown_kind (hkind : cartridgeKind (rom.read .cartRom 0x147) = none) :
    buildCartridge rom size = none := by
  simp only [buildCartridge, hkind, ite_self]

/-- A RAM-size code the table has not, where it is consulted, gives no cartridge (R83). -/
theorem buildCartridge_of_unknown_size {kind : BankKind}
    (hkind : cartridgeKind (rom.read .cartRom 0x147) = some (kind, true)) (hk : kind ≠ .type2)
    (hcode : rom.read .cartRom 0x149 ∉ ([0x01, 0x02, 0x03] : List Byte)) :
    buildCartridge rom size = none := by
  simp only [buildCartridge, hkind, externalRam, if_neg hk, ramSizeOfCode_of_not_mem _ hcode, Option.map_none, if_true,
    ite_self]

/-! ## Reset (R420 to R426) -/

/-- The machine without a bootstrap image. -/
def seeded (q : Config.Params) (cart : Cartridge) (init : Init) : State :=
  { State.reset with
    mem := init.ram.filter fun c => isRamKey c.1
    cartRam := init.cartRam.filter fun c => decide (c.1 < cart.ramSize.getD 0)
    cart := cart
    params := q }

/-- The machine with a bootstrap image. -/
def booted (q : Config.Params) (cart : Cartridge) (image : Memory) (init : Init) : State :=
  { seeded q cart init with
    regs := init.regs
    flags := init.flags
    sp := init.sp
    pc := 0x0000
    booting := true
    bootRom := image
    mem := zeroIo (seeded q cart init).mem }

theorem resetWith_none {q : Config.Params} {cart : Cartridge} {init : Init} (h : buildCartridge rom size = some cart) :
    resetWith q rom size none init = some (seeded q cart init) := by
  simp only [resetWith, h]
  rfl

theorem resetWith_some {q : Config.Params} {cart : Cartridge} {image : Memory} {init : Init}
    (h : buildCartridge rom size = some cart) :
    resetWith q rom size (some image) init = some (booted q cart image init) := by
  simp only [resetWith, h]
  rfl

theorem resetWith_of_no_cartridge {q : Config.Params} {boot : Option Memory} {init : Init}
    (h : buildCartridge rom size = none) : resetWith q rom size boot init = none := by
  simp only [resetWith, h]

section

variable (q : Config.Params) (cart : Cartridge) (image : Memory) (init : Init)

theorem seeded_load_ram {k : Nat} (h : isRamKey k = true) : (seeded q cart init).load k = init.ram.read .bus k :=
  Memory.read_filter .bus init.ram isRamKey h

theorem seeded_load_io {k : Nat} (h : isRamKey k = false) : (seeded q cart init).load k = unlisted .bus k :=
  Memory.read_filter_out .bus init.ram isRamKey h

/-- With a bootstrap image the four I/O bytes that are not 0x00 without one are (R423). -/
theorem read_zeroIo (m : Memory) (k : Nat) : (zeroIo m).read .bus k =
    if k ∈ [Port.LCDC, Port.BGP, Port.OBP0, Port.OBP1] then 0x00 else m.read .bus k := by
  simp only [zeroIo, Memory.read_write, List.mem_cons, List.not_mem_nil, or_false]
  split_ifs <;> simp_all

theorem booted_load_ram {k : Nat} (h : isRamKey k = true) : (booted q cart image init).load k = init.ram.read .bus k := by
  have hk : k ∉ [Port.LCDC, Port.BGP, Port.OBP0, Port.OBP1] := fun hm => by
    simp only [List.mem_cons, List.not_mem_nil, or_false] at hm
    rcases hm with rfl | rfl | rfl | rfl <;> cases h
  exact ((read_zeroIo _ k).trans (if_neg hk)).trans (seeded_load_ram q cart init h)

theorem booted_load_io {k : Nat} (h : isRamKey k = false) : (booted q cart image init).load k = 0x00 := by
  refine (read_zeroIo _ k).trans ?_
  split
  · rfl
  · next hk =>
    simp only [List.mem_cons, List.not_mem_nil, or_false, not_or] at hk
    obtain ⟨h1, h2, h3, h4⟩ := hk
    refine (seeded_load_io q cart init h).trans ?_
    simp only [unlisted, if_neg h1, if_neg h2, if_neg h3, if_neg h4]

theorem isRamKey_io {k : Nat} (h1 : 0xFF00 ≤ k) (h2 : k ≤ 0xFF7F) : isRamKey k = false := by
  simp [isRamKey]
  omega

theorem isRamKey_ram {k : Nat} (h : (0x8000 ≤ k ∧ k ≤ 0x9FFF) ∨ (0xC000 ≤ k ∧ k ≤ 0xDFFF) ∨
    (0xFE00 ≤ k ∧ k ≤ 0xFE9F) ∨ (0xFF80 ≤ k ∧ k ≤ 0xFFFE)) : isRamKey k = true := by
  simp [isRamKey]
  omega

/-- The buffer holds the bytes of P_INIT (R425). -/
theorem seeded_buffer {n : Nat} (hn : cart.ramSize = some n) {k : Nat} (hk : k < n) :
    (seeded q cart init).cartRam.read .cartRam k = init.cartRam.read .cartRam k :=
  Memory.read_filter .cartRam init.cartRam (fun j => decide (j < cart.ramSize.getD 0)) (by simpa [hn] using hk)

theorem seeded_takesRamFrom : (seeded q cart init).TakesRamFrom init :=
  ⟨fun _ hk => seeded_load_ram q cart init (isRamKey_ram hk), fun _ hn _ hk => seeded_buffer q cart init hn hk⟩

theorem booted_takesRamFrom : (booted q cart image init).TakesRamFrom init :=
  ⟨fun _ hk => booted_load_ram q cart image init (isRamKey_ram hk), fun _ hn _ hk => seeded_buffer q cart init hn hk⟩

theorem unlisted_io (k : Nat) : unlisted .bus k = if k = 0xFF40 then 0x91 else if k = 0xFF47 then 0xFC
    else if k = 0xFF48 ∨ k = 0xFF49 then 0xFF else 0x00 := by
  simp only [unlisted]
  split_ifs <;> simp_all

end

/-- Settles O49: the cartridge from the codes, then the two variants of reset. -/
theorem resetFromArguments : Obligations.ResetFromArguments := by
  intro table htable q rom size boot init typeCode sizeCode htype hsizeCode
  have hrow : ∀ {kind : BankKind} {present : Bool}, (typeCode, kind, present) ∈ table ↔
      cartridgeKind (rom.read .cartRom 0x147) = some (kind, present) := by
    rw [htable, ← htype]
    exact mem_typeTable
  subst hsizeCode
  refine ⟨fun kind present ram hlong hmem hram hcode => ?_, fun hbad => ?_⟩
  · have hcart := buildCartridge_of_codes hlong (hrow.1 hmem)
      ((externalRam_of_codes hcode).trans (congrArg some hram.symm))
    exact ⟨⟨_, resetWith_none hcart, rfl,
        fun k h1 h2 => (seeded_load_io _ _ _ (isRamKey_io h1 h2)).trans (unlisted_io k),
        seeded_load_io _ _ _ rfl, seeded_takesRamFrom _ _ _⟩,
      ⟨_, resetWith_some hcart, rfl, fun k h1 h2 => booted_load_io _ _ _ _ (isRamKey_io h1 h2),
        booted_load_io _ _ _ _ rfl, booted_takesRamFrom _ _ _ _⟩⟩
  · suffices hnone : buildCartridge rom size = none from
      ⟨resetWith_of_no_cartridge hnone, resetWith_of_no_cartridge hnone⟩
    rcases hbad with habsent | ⟨kind, hmem, hk, hcode⟩
    · refine buildCartridge_of_unknown_kind (Option.eq_none_iff_forall_ne_some.2 fun r hr => ?_)
      exact habsent r.1 r.2 (hrow.2 hr)
    · exact buildCartridge_of_unknown_size (hrow.1 hmem) hk hcode

end Sys2Proof.Machine
end

section
/-! PROOFS. The fields of an opcode byte (30_encoding.md R111 to R115, R118 to R120): a field table undoes its code, and the
two-field blocks of the opcode tables give back the operands that a byte is built from. -/

namespace Sys2Proof

/-! ## Field tables -/

@[simp] theorem operandOf_reg_code (r : Reg8) : operandOf r.code.toNat = .reg r := by cases r <;> rfl

@[simp] theorem operandOf_code (x : Operand8) : operandOf x.code.toNat = x := by
  cases x with
  | reg r => exact operandOf_reg_code r
  | mHL => rfl

@[simp] theorem reg16Of_code (q : Reg16) : reg16Of q.code.toNat = q := by cases q <;> rfl

@[simp] theorem stackPairOf_code (q : StackPair) : stackPairOf q.code.toNat = q := by cases q <;> rfl

@[simp] theorem condOf_code (c : Cond) : condOf c.code.toNat = c := by cases c <;> rfl

@[simp] theorem aluOf_code (o : AluOp) : aluOf o.code.toNat = o := by cases o <;> rfl

@[simp] theorem rotOf_code (o : RotOp) : rotOf o.code.toNat = o := by cases o <;> rfl

@[simp] theorem bitNoOf_code (k : BitNo) : bitNoOf k.code.toNat = k := by cases k <;> rfl

/-! ## The offset e8 (R115) -/

theorem offsetInRange_toInt (b : Byte) : offsetInRange b.toInt = true := by
  have hlow := BitVec.le_toInt b
  have hhigh := BitVec.toInt_lt (x := b)
  simp only [offsetInRange, decide_eq_true_eq]
  omega

theorem toInt_offset8 {e : Int} (h : offsetInRange e = true) : (offset8 e).toInt = e := by
  have hrange : -128 ≤ e ∧ e ≤ 127 := of_decide_eq_true h
  rw [offset8, BitVec.toInt_ofInt, Int.bmod_eq_of_le] <;> omega

@[simp] theorem offset8_toInt (b : Byte) : offset8 b.toInt = b := BitVec.ofInt_toInt

/-! ## The three fields x, y, z -/

theorem toNat_fields (x : BitVec 2) (y z : BitVec 3) :
    (x ++ y ++ z : Byte).toNat = x.toNat * 64 + y.toNat * 8 + z.toNat := by
  rw [BitVec.toNat_append, BitVec.toNat_append, ← Nat.shiftLeft_add_eq_or_of_lt z.isLt,
    ← Nat.shiftLeft_add_eq_or_of_lt y.isLt, Nat.shiftLeft_eq, Nat.shiftLeft_eq]
  omega

theorem toNat_fields_div_64 (x : BitVec 2) (y z : BitVec 3) : (x ++ y ++ z : Byte).toNat / 64 = x.toNat := by
  rw [toNat_fields]
  omega

theorem toNat_fields_div_8_mod_8 (x : BitVec 2) (y z : BitVec 3) : (x ++ y ++ z : Byte).toNat / 8 % 8 = y.toNat := by
  rw [toNat_fields]
  omega

theorem toNat_fields_mod_8 (x : BitVec 2) (y z : BitVec 3) : (x ++ y ++ z : Byte).toNat % 8 = z.toNat := by
  rw [toNat_fields]
  omega

/-! ## The blocks whose bytes hold two operand fields -/

theorem decodeForm_ldRR (d s : Reg8) (b1 b2 : Byte) : decodeForm (0b01#2 ++ d.code ++ s.code) b1 b2 = .ldRR d s := by
  simp only [decodeForm, toNat_fields_div_64, toNat_fields_div_8_mod_8, toNat_fields_mod_8]
  show decodeBlock1 d.code.toNat s.code.toNat = .ldRR d s
  simp only [decodeBlock1, operandOf_reg_code]

theorem decodeForm_alu (o : AluOp) (x : Operand8) (b1 b2 : Byte) :
    decodeForm (0b10#2 ++ o.code ++ x.code) b1 b2 = .alu o x := by
  simp only [decodeForm, toNat_fields_div_64, toNat_fields_div_8_mod_8, toNat_fields_mod_8, aluOf_code, operandOf_code]
  rfl

/-- The byte after 0xCB: its first field chooses the group, the others name the operation or bit number and the operand. -/
theorem decodePrefixed_fields (y z : BitVec 3) :
    decodePrefixed (0b00#2 ++ y ++ z) = .rot (rotOf y.toNat) (operandOf z.toNat) ∧
    decodePrefixed (0b01#2 ++ y ++ z) = .bit (bitNoOf y.toNat) (operandOf z.toNat) ∧
    decodePrefixed (0b10#2 ++ y ++ z) = .res (bitNoOf y.toNat) (operandOf z.toNat) ∧
    decodePrefixed (0b11#2 ++ y ++ z) = .set (bitNoOf y.toNat) (operandOf z.toNat) := by
  simp only [decodePrefixed, toNat_fields_div_64, toNat_fields_div_8_mod_8, toNat_fields_mod_8]
  exact ⟨rfl, rfl, rfl, rfl⟩

theorem decodePrefixed_rot (o : RotOp) (x : Operand8) : decodePrefixed (0b00#2 ++ o.code ++ x.code) = .rot o x := by
  obtain ⟨h, -, -, -⟩ := decodePrefixed_fields o.code x.code
  rw [h, rotOf_code, operandOf_code]

theorem decodePrefixed_bit (k : BitNo) (x : Operand8) : decodePrefixed (0b01#2 ++ k.code ++ x.code) = .bit k x := by
  obtain ⟨-, h, -, -⟩ := decodePrefixed_fields k.code x.code
  rw [h, bitNoOf_code, operandOf_code]

theorem decodePrefixed_res (k : BitNo) (x : Operand8) : decodePrefixed (0b10#2 ++ k.code ++ x.code) = .res k x := by
  obtain ⟨-, -, h, -⟩ := decodePrefixed_fields k.code x.code
  rw [h, bitNoOf_code, operandOf_code]

theorem decodePrefixed_set (k : BitNo) (x : Operand8) : decodePrefixed (0b11#2 ++ k.code ++ x.code) = .set k x := by
  obtain ⟨-, -, -, h⟩ := decodePrefixed_fields k.code x.code
  rw [h, bitNoOf_code, operandOf_code]

/-! ## The 0xCB table (R120) -/

theorem decodePrefixed_cases (b : Byte) : (∃ o x, decodePrefixed b = .rot o x) ∨ (∃ k x, decodePrefixed b = .bit k x) ∨
    (∃ k x, decodePrefixed b = .res k x) ∨ ∃ k x, decodePrefixed b = .set k x := by
  unfold decodePrefixed
  dsimp only
  split
  · exact .inl ⟨_, _, rfl⟩
  · exact .inr (.inl ⟨_, _, rfl⟩)
  · exact .inr (.inr (.inl ⟨_, _, rfl⟩))
  · exact .inr (.inr (.inr ⟨_, _, rfl⟩))

theorem operandBytes_decodePrefixed (p : Config.StopLen) (b : Byte) : (decodePrefixed b).operandBytes p = 1 := by
  obtain ⟨_, _, h⟩ | ⟨_, _, h⟩ | ⟨_, _, h⟩ | ⟨_, _, h⟩ := decodePrefixed_cases b <;> rw [h] <;> rfl

theorem wf_decodePrefixed (b : Byte) : (decodePrefixed b).wf = true := by
  obtain ⟨_, _, h⟩ | ⟨_, _, h⟩ | ⟨_, _, h⟩ | ⟨_, _, h⟩ := decodePrefixed_cases b <;> rw [h] <;> rfl

/-- Every byte after 0xCB is the encoding of what it decodes to: the 256 rows of the table. -/
theorem encodeForm_decodePrefixed (p : Config.StopLen) (b : Byte) : encodeForm p (decodePrefixed b) = [0xCB, b] := by
  cases p <;> decide +revert

end Sys2Proof
end

section
/-! PROOFS. The opcode and the operand bytes of a form, told apart: the opcode fixes the form but for its operand, and the bytes
after it fix the operand (30_encoding.md R110, R115). Both directions of the round trip follow from this. -/

namespace Sys2Proof
open Machine

/-- Byte k of the encoding, with the byte STOP ignores; 0 past the end. -/
def Form.byte (f : Form) (k : Nat) : Byte := (encodeForm .two f).getD k 0

/-- The form with the operand that the two bytes after the opcode give. After 0xCB the next byte gives the whole form. -/
def Form.withOperand (f : Form) (b1 b2 : Byte) : Form :=
  match f with
  | .ldRI d _ => .ldRI d b1
  | .ldMI _ => .ldMI b1
  | .ldhAI _ => .ldhAI b1
  | .ldhIA _ => .ldhIA b1
  | .aluI o _ => .aluI o b1
  | .addSPe _ => .addSPe b1.toInt
  | .ldHLSPe _ => .ldHLSPe b1.toInt
  | .jr _ => .jr b1.toInt
  | .jrCC c _ => .jrCC c b1.toInt
  | .rot _ _ | .bit _ _ | .res _ _ | .set _ _ => decodePrefixed b1
  | .ldAAbs _ => .ldAAbs (pair b2 b1)
  | .ldAbsA _ => .ldAbsA (pair b2 b1)
  | .ldRrI q _ => .ldRrI q (pair b2 b1)
  | .ldAbsSP _ => .ldAbsSP (pair b2 b1)
  | .jp _ => .jp (pair b2 b1)
  | .jpCC c _ => .jpCC c (pair b2 b1)
  | .call _ => .call (pair b2 b1)
  | .callCC c _ => .callCC c (pair b2 b1)
  | f => f

/-! ## The bytes of a form -/

/-- The encoding is the opcode and as many operand bytes as the form has. -/
theorem encodeForm_eq_take (p : Config.StopLen) (f : Form) :
    encodeForm p f = [f.byte 0, f.byte 1, f.byte 2].take (1 + f.operandBytes p) := by
  cases f
  case stop => cases p <;> rfl
  all_goals rfl

theorem operandBytes_le_two (p : Config.StopLen) (f : Form) : f.operandBytes p ≤ 2 := by
  cases f
  case stop => cases p <;> decide
  all_goals exact Nat.le_of_ble_eq_true rfl

/-! ## Replacing the operand -/

theorem withOperand_decodePrefixed (b b1 b2 : Byte) : (decodePrefixed b).withOperand b1 b2 = decodePrefixed b1 := by
  obtain ⟨_, _, h⟩ | ⟨_, _, h⟩ | ⟨_, _, h⟩ | ⟨_, _, h⟩ := decodePrefixed_cases b <;> rw [h] <;> rfl

@[simp] theorem withOperand_withOperand (f : Form) (a1 a2 b1 b2 : Byte) :
    (f.withOperand a1 a2).withOperand b1 b2 = f.withOperand b1 b2 := by
  cases f
  case rot | bit | res | set => exact withOperand_decodePrefixed a1 b1 b2
  all_goals rfl

@[simp] theorem operandBytes_withOperand (p : Config.StopLen) (f : Form) (b1 b2 : Byte) :
    (f.withOperand b1 b2).operandBytes p = f.operandBytes p := by
  cases f
  case rot | bit | res | set => exact operandBytes_decodePrefixed p b1
  all_goals rfl

@[simp] theorem byte_zero_withOperand (f : Form) (b1 b2 : Byte) : (f.withOperand b1 b2).byte 0 = f.byte 0 := by
  cases f
  case rot | bit | res | set => exact congrArg (·.getD 0 0) (encodeForm_decodePrefixed .two b1)
  all_goals rfl

theorem wf_withOperand {f : Form} (hf : f.wf = true) (b1 b2 : Byte) : (f.withOperand b1 b2).wf = true := by
  cases f
  case rot | bit | res | set => exact wf_decodePrefixed b1
  case jr | jrCC | addSPe | ldHLSPe => exact offsetInRange_toInt b1
  all_goals rfl

/-- Only as many bytes count as the operand has. -/
theorem withOperand_congr (p : Config.StopLen) (f : Form) {b1 b2 c1 c2 : Byte}
    (h : [b1, b2].take (f.operandBytes p) = [c1, c2].take (f.operandBytes p)) :
    f.withOperand b1 b2 = f.withOperand c1 c2 := by
  cases f
  case ldRI | ldMI | ldhAI | ldhIA | aluI | addSPe | ldHLSPe | jr | jrCC | rot | bit | res | set =>
    obtain rfl : b1 = c1 := List.head_eq_of_cons_eq h
    rfl
  case ldAAbs | ldAbsA | ldRrI | ldAbsSP | jp | jpCC | call | callCC =>
    obtain rfl : b1 = c1 := List.head_eq_of_cons_eq h
    obtain rfl : b2 = c2 := List.head_eq_of_cons_eq (List.tail_eq_of_cons_eq h)
    rfl
  all_goals rfl

/-- A well-formed form has the operand that its own bytes give. -/
theorem withOperand_bytes {f : Form} (hf : f.wf = true) : f.withOperand (f.byte 1) (f.byte 2) = f := by
  cases f
  case rot o x => exact decodePrefixed_rot o x
  case bit k x => exact decodePrefixed_bit k x
  case res k x => exact decodePrefixed_res k x
  case set k x => exact decodePrefixed_set k x
  case jr e => exact congrArg Form.jr (toInt_offset8 hf)
  case jrCC c e => exact congrArg (Form.jrCC c) (toInt_offset8 hf)
  case addSPe e => exact congrArg Form.addSPe (toInt_offset8 hf)
  case ldHLSPe e => exact congrArg Form.ldHLSPe (toInt_offset8 hf)
  case ldAAbs w => exact congrArg Form.ldAAbs (pair_hi_lo w)
  case ldAbsA w => exact congrArg Form.ldAbsA (pair_hi_lo w)
  case ldRrI q w => exact congrArg (Form.ldRrI q) (pair_hi_lo w)
  case ldAbsSP w => exact congrArg Form.ldAbsSP (pair_hi_lo w)
  case jp w => exact congrArg Form.jp (pair_hi_lo w)
  case jpCC c w => exact congrArg (Form.jpCC c) (pair_hi_lo w)
  case call w => exact congrArg Form.call (pair_hi_lo w)
  case callCC c w => exact congrArg (Form.callCC c) (pair_hi_lo w)
  all_goals rfl

/-- The bytes that give a form its operand are the bytes that encode it, but for the byte STOP ignores. -/
theorem encodeForm_withOperand (p : Config.StopLen) {f : Form} (hf : f ≠ .stop) (b1 b2 : Byte) :
    encodeForm p (f.withOperand b1 b2) = [f.byte 0, b1, b2].take (1 + f.operandBytes p) := by
  cases f
  case stop => exact absurd rfl hf
  case rot | bit | res | set => exact encodeForm_decodePrefixed p b1
  case jr | jrCC | addSPe | ldHLSPe => exact congrArg (fun b => [_, b]) (offset8_toInt b1)
  case ldAAbs | ldAbsA | ldRrI | ldAbsSP | jp | jpCC | call | callCC =>
    simp [Form.withOperand, encodeForm, Form.byte, Form.operandBytes]
  all_goals rfl

/-! ## The opcode fixes the form but for its operand -/

theorem decodeBlock0_eq_withOperand (y z : Nat) (b1 b2 : Byte) :
    decodeBlock0 y z b1 b2 = (decodeBlock0 y z 0 0).withOperand b1 b2 := by
  unfold decodeBlock0
  repeat' split
  all_goals rfl

theorem decodeBlock1_eq_withOperand (y z : Nat) (b1 b2 : Byte) :
    decodeBlock1 y z = (decodeBlock1 y z).withOperand b1 b2 := by
  unfold decodeBlock1
  split <;> rfl

theorem decodeBlock3_eq_withOperand (y z : Nat) (b1 b2 : Byte) :
    decodeBlock3 y z b1 b2 = (decodeBlock3 y z 0 0).withOperand b1 b2 := by
  unfold decodeBlock3
  repeat' split
  all_goals rfl

theorem decodeForm_eq_withOperand (op b1 b2 : Byte) : decodeForm op b1 b2 = (decodeForm op 0 0).withOperand b1 b2 := by
  simp only [decodeForm]
  split
  · exact decodeBlock0_eq_withOperand _ _ b1 b2
  · exact decodeBlock1_eq_withOperand _ _ b1 b2
  · rfl
  · exact decodeBlock3_eq_withOperand _ _ b1 b2

/-- The opcode of a form decodes to the form, but for the operand. -/
theorem decodeForm_byte_zero (f : Form) : decodeForm (f.byte 0) 0 0 = f.withOperand 0 0 := by
  cases f <;> simp only [Form.byte, encodeForm, List.getD_cons_zero]
  case ldRR d s => exact decodeForm_ldRR d s 0 0
  case alu o x => exact decodeForm_alu o x 0 0
  case ldRM r | ldMR r | incR r | decR r => cases r <;> rfl
  case ldRI r _ => cases r <;> rfl
  case aluI o _ => cases o <;> rfl
  case ldAInd q | ldIndA q | push q | pop q | addHL q | incRr q | decRr q => cases q <;> rfl
  case ldRrI q _ => cases q <;> rfl
  case retCC c => cases c <;> rfl
  case jrCC c _ | jpCC c _ | callCC c _ => cases c <;> rfl
  case rst t => cases t <;> rfl
  case illegal x => cases x <;> rfl
  all_goals rfl

/-- The opcode of what an opcode decodes to is that opcode: the 256 rows of the table. -/
theorem byte_zero_decodeForm_zero (op : Byte) : (decodeForm op 0 0).byte 0 = op := by decide +revert

theorem wf_decodeForm_zero (op : Byte) : (decodeForm op 0 0).wf = true := by decide +revert

@[simp] theorem byte_zero_decodeForm (op b1 b2 : Byte) : (decodeForm op b1 b2).byte 0 = op := by
  rw [decodeForm_eq_withOperand, byte_zero_withOperand, byte_zero_decodeForm_zero]

theorem wf_decodeForm (op b1 b2 : Byte) : (decodeForm op b1 b2).wf = true := by
  rw [decodeForm_eq_withOperand]
  exact wf_withOperand (wf_decodeForm_zero op) b1 b2

/-- The operand bytes do not change how many there are (R110). -/
theorem instrLength_eq (p : Config.StopLen) (op b1 b2 : Byte) :
    instrLength p op = 1 + (decodeForm op b1 b2).operandBytes p := by
  rw [decodeForm_eq_withOperand, operandBytes_withOperand, instrLength]

theorem instrLength_le_three (p : Config.StopLen) (op : Byte) : instrLength p op ≤ 3 :=
  Nat.add_le_add_left (operandBytes_le_two p _) 1

/-! ## The round trip of forms -/

theorem decodeForm_bytes {f : Form} (hf : f.wf = true) : decodeForm (f.byte 0) (f.byte 1) (f.byte 2) = f := by
  rw [decodeForm_eq_withOperand, decodeForm_byte_zero, withOperand_withOperand, withOperand_bytes hf]

theorem encodeForm_decodeForm (p : Config.StopLen) {op b1 b2 : Byte} (h : decodeForm op b1 b2 ≠ .stop) :
    encodeForm p (decodeForm op b1 b2) = [op, b1, b2].take (instrLength p op) := by
  rw [decodeForm_eq_withOperand] at h ⊢
  have hzero : decodeForm op 0 0 ≠ .stop := fun h0 => h (by rw [h0]; rfl)
  rw [encodeForm_withOperand p hzero, byte_zero_decodeForm, instrLength]

end Sys2Proof
end

section
/-! PROOFS. What the decoder reads, said once (30_encoding.md R110, R122), and the statements about encodings. -/

namespace Sys2Proof

/-! ## The decoder -/

@[simp] theorem form_decodeBytes (op b1 b2 : Byte) : (decodeBytes op b1 b2).form = decodeForm op b1 b2 := form_instr _

/-- A byte past the length of the instruction does not count. -/
theorem decodeBytes_congr (p : Config.StopLen) {op b1 b2 c1 c2 : Byte}
    (h : [b1, b2].take ((decodeForm op 0 0).operandBytes p) = [c1, c2].take ((decodeForm op 0 0).operandBytes p)) :
    decodeBytes op b1 b2 = decodeBytes op c1 c2 := by
  rw [decodeBytes, decodeBytes, decodeForm_eq_withOperand op b1, decodeForm_eq_withOperand op c1,
    withOperand_congr p _ h]

theorem decode_take_append (p : Config.StopLen) (op b1 b2 : Byte) (rest : List Byte) :
    decode p ([op, b1, b2].take (instrLength p op) ++ rest) = .ok (decodeBytes op b1 b2, rest) := by
  have hle := operandBytes_le_two p (decodeForm op 0 0)
  obtain hn | hn | hn : (decodeForm op 0 0).operandBytes p = 0 ∨ (decodeForm op 0 0).operandBytes p = 1 ∨
      (decodeForm op 0 0).operandBytes p = 2 := by omega
  · have hunused : decodeBytes op b1 b2 = decodeBytes op 0 0 := decodeBytes_congr p (by rw [hn]; rfl)
    simp only [instrLength, decode, hn, hunused, List.take, List.cons_append, List.nil_append]
  · have hunused : decodeBytes op b1 b2 = decodeBytes op b1 0 := decodeBytes_congr p (by rw [hn]; rfl)
    simp only [instrLength, decode, hn, hunused, List.take, List.cons_append, List.nil_append]
  · simp only [instrLength, decode, hn, List.take, List.cons_append, List.nil_append]

/-- The decoder reads the bytes of one instruction, as many as its opcode says, and leaves the others. -/
theorem decode_eq_ok_iff {p : Config.StopLen} {bytes rest : List Byte} {i : Instr} : decode p bytes = .ok (i, rest) ↔
    ∃ op b1 b2, bytes = [op, b1, b2].take (instrLength p op) ++ rest ∧ i = decodeBytes op b1 b2 := by
  constructor
  · intro h
    cases bytes with
    | nil => cases h
    | cons op more =>
      simp only [decode] at h
      split at h
      · next _ hn => cases h; exact ⟨op, 0, 0, by simp only [instrLength, hn]; rfl, rfl⟩
      · next b1 _ hn => cases h; exact ⟨op, b1, 0, by simp only [instrLength, hn]; rfl, rfl⟩
      · next b1 b2 _ hn => cases h; exact ⟨op, b1, b2, by simp only [instrLength, hn]; rfl, rfl⟩
      · cases h
  · rintro ⟨op, b1, b2, rfl, rfl⟩
    exact decode_take_append p op b1 b2 rest

/-- Settles O1: the decoder reads the three bytes of the form, which decode to it. -/
theorem decodeInvertsEncode : Obligations.DecodeInvertsEncode := by
  intro p i rest hwf
  have hdec : decodeForm (i.form.byte 0) (i.form.byte 1) (i.form.byte 2) = i.form := decodeForm_bytes hwf
  refine decode_eq_ok_iff.2 ⟨i.form.byte 0, i.form.byte 1, i.form.byte 2, ?_, ?_⟩
  · rw [instrLength_eq p _ (i.form.byte 1) (i.form.byte 2), hdec, encode, encodeForm_eq_take]
  · rw [decodeBytes, hdec, instr_form]

theorem instr_eq_stop_iff {f : Form} : f.instr = .stop ↔ f = .stop :=
  ⟨fun h => (form_instr f).symm.trans (congrArg Instr.form h), congrArg Form.instr⟩

/-- Settles O2: the bytes that were read encode the form they decode to; those of STOP have the opcode 0x10. -/
theorem encodeInvertsDecode : Obligations.EncodeInvertsDecode := by
  intro p bytes i rest h
  obtain ⟨op, b1, b2, rfl, rfl⟩ := decode_eq_ok_iff.1 h
  refine ⟨(wf_instr _).trans (wf_decodeForm op b1 b2), fun hne => ?_, fun hstop => ?_⟩
  · rw [encode, form_decodeBytes, encodeForm_decodeForm p (mt instr_eq_stop_iff.2 hne)]
  · obtain rfl : op = 0x10 := by
      rw [← byte_zero_decodeForm op b1 b2, instr_eq_stop_iff.1 hstop]
      rfl
    cases p with
    | one => rfl
    | two => exact ⟨b1, rfl⟩

/-- Settles O3: the table of the 256 opcodes at both values of P_STOP_LEN, and the length of what the decoder read. -/
theorem lengthFromFirstByte : Obligations.LengthFromFirstByte := by
  refine fun p op => ⟨by cases p <;> decide +revert, fun more i rest h => ?_⟩
  obtain ⟨op', b1, b2, hbytes, -⟩ := decode_eq_ok_iff.1 h
  obtain rfl : op = op' := by
    rw [instrLength, Nat.add_comm] at hbytes
    exact List.head_eq_of_cons_eq hbytes
  rw [hbytes, List.length_append, List.length_take]
  exact congrArg (· + rest.length) (Nat.min_eq_left (instrLength_le_three p op))

theorem exists_illegalOp_byte_iff {op : Byte} : (∃ x : IllegalOp, op = x.byte) ↔
    op ∈ ([0xD3, 0xDB, 0xDD, 0xE3, 0xE4, 0xEB, 0xEC, 0xED, 0xF4, 0xFC, 0xFD] : List Byte) := by
  constructor
  · rintro ⟨x, rfl⟩
    cases x <;> decide
  · intro h
    fin_cases h
    exacts [⟨.xD3, rfl⟩, ⟨.xDB, rfl⟩, ⟨.xDD, rfl⟩, ⟨.xE3, rfl⟩, ⟨.xE4, rfl⟩, ⟨.xEB, rfl⟩, ⟨.xEC, rfl⟩, ⟨.xED, rfl⟩,
      ⟨.xF4, rfl⟩, ⟨.xFC, rfl⟩, ⟨.xFD, rfl⟩]

theorem decodeForm_eq_illegal_iff {op b1 b2 : Byte} {x : IllegalOp} :
    decodeForm op b1 b2 = .illegal x ↔ op = x.byte := by
  constructor
  · intro h
    rw [← byte_zero_decodeForm op b1 b2, h]
    rfl
  · rintro rfl
    cases x <;> rfl

/-- Settles O4: an opcode and two bytes hold a whole instruction, and the opcode of an illegal form or of a form of the 0xCB
table is that form's first byte. -/
theorem everyByteDecodes : Obligations.EveryByteDecodes := by
  intro p op b1 b2
  refine ⟨decodeBytes op b1 b2, [op, b1, b2].drop (instrLength p op),
    decode_eq_ok_iff.2 ⟨op, b1, b2, (List.take_append_drop _ _).symm, rfl⟩, ?_⟩
  rw [form_decodeBytes]
  constructor
  · simp only [decodeForm_eq_illegal_iff, exists_illegalOp_byte_iff]
  · constructor
    · intro h
      rw [← byte_zero_decodeForm op b1 b2]
      obtain ⟨_, _, h⟩ | ⟨_, _, h⟩ | ⟨_, _, h⟩ | ⟨_, _, h⟩ := h <;> rw [h] <;> rfl
    · rintro rfl
      exact decodePrefixed_cases b1

/-- Settles O6, by running the decoder on each word. -/
theorem specWordsDecode : Obligations.SpecWordsDecode :=
  ⟨rfl, rfl, rfl, rfl, rfl, rfl, rfl, rfl, rfl, rfl, rfl, rfl, rfl, rfl, rfl⟩

end Sys2Proof
end

section
/-! PROOFS. The operands that the fields name (30_encoding.md R112 to R114, 10_state.md R20). -/

namespace Sys2Proof.Machine

theorem Regs.get_put (r : Regs) (x y : Reg8) (v : Byte) : (r.put x v).get y = if y = x then v else r.get y := by
  split_ifs with h
  · rw [h, Regs.get_put_same]
  · exact Regs.get_put_ne r v h

/-- The pairs are independent cells; a written pair is read back from its two registers. -/
theorem r16_setR16 (s : State) (p q : Reg16) (v : Word) : (s.setR16 p v).r16 q = if q = p then v else s.r16 q := by
  cases p <;> cases q
  case BC.BC | DE.DE | HL.HL => exact pair_hi_lo v
  all_goals rfl

/-- Settles O5, clause by clause: the field tables, the conditions, the operands in a state, the independent cells, and the
high and low byte of a pair. -/
theorem registerOperands : Obligations.RegisterOperands :=
  ⟨rfl, operandOf_code, rfl, reg16Of_code, rfl, stackPairOf_code, condOf_code, fun _ => ⟨rfl, rfl, rfl, rfl⟩,
    fun _ => ⟨fun _ _ => Iff.rfl, rfl, rfl, rfl, rfl, rfl⟩, Regs.get_put, r16_setR16, pair_hi_lo,
    fun h l => ⟨hi_pair h l, lo_pair h l⟩⟩

end Sys2Proof.Machine
end

section
/-! PROOFS. Two-byte accesses and the stack (00_scope.md R11; 20_memory.md R66, R68; 40_load.md R150, R151): a composed access
is its two one-byte accesses, each run by its own equation. -/

namespace Sys2Proof.Machine

/-! ## Two bytes at an address (R66, R68) -/

theorem memRead16_of_reads {s t u : State} {a : Word} {l h : Byte} (hlow : s.Reads a l t) (hhigh : t.Reads (a + 1) h u) :
    memRead16 a s = .ok (pair h l, u) := by
  simp only [memRead16, memRead_of_reads hlow, memRead_of_reads hhigh, ok_bind, pure_ok]

theorem memWrite16_of_low {s t : State} {a v : Word} (hlow : memWrite a (lo v) s = .ok t) :
    memWrite16 a v s = memWrite (a + 1) (hi v) t := by
  simp only [memWrite16, hlow, ok_bind]

/-- A write of the RAM-enable window, 0x0000 to 0x1FFF, of a cartridge with a controller (R84). -/
theorem memWrite_ramEnable {s : State} {a : Word} (hk : s.cart.kind ≠ .none) (ha : a.toNat < 0x2000) (v : Byte) :
    memWrite a v s = .ok { s with bank := { s.bank with ramEnabled := decide (v.toNat % 16 = 0x0A) } } := by
  rw [memWrite_rom (by omega), writeBankRegs, if_neg hk, if_pos ha]
  simp only [low_nibble_iff]
  rfl

/-! ## Plain storage -/

/-- Neighbouring addresses of plain storage are different bytes: at the one place where the storage turns back, from 0xDFFF to
the echo of 0xC000, it goes back by a whole bank. -/
theorem storageKey_sub_one_ne {a : Word} (h : plainAddress a = true) : storageKey a ≠ storageKey (a - 1) := by
  have hpos : 1 ≤ a.toNat := by
    by_contra hzero
    obtain rfl : a = 0 := BitVec.eq_of_toNat_eq (show a.toNat = 0 by omega)
    cases h
  have hsub : (a - 1).toNat = a.toNat - 1 := BitVec.toNat_sub_of_le (BitVec.le_def.2 hpos)
  by_cases hecho : region a = .echo <;> by_cases hecho' : region (a - 1) = .echo
  · have hb : 0xE000 ≤ (a - 1).toNat ∧ (a - 1).toNat ≤ 0xFDFF := bounds_of_region hecho'
    rw [storageKey_echo hecho, storageKey_echo hecho']
    omega
  · have hb : 0xE000 ≤ a.toNat ∧ a.toNat ≤ 0xFDFF := bounds_of_region hecho
    rw [storageKey_echo hecho, storageKey_eq hecho']
    omega
  · have hb : 0xE000 ≤ (a - 1).toNat ∧ (a - 1).toNat ≤ 0xFDFF := bounds_of_region hecho'
    have hout : ¬ (0xE000 ≤ a.toNat ∧ a.toNat ≤ 0xFDFF) := fun hin => hecho (region_eq_iff.2 hin)
    rw [storageKey_eq hecho, storageKey_echo hecho']
    omega
  · rw [storageKey_eq hecho, storageKey_eq hecho']
    omega

/-- A push onto plain storage stores its two bytes. -/
theorem push16_plain {s : State} (v : Word) (hhigh : plainAddress (s.sp - 1) = true)
    (hlow : plainAddress (s.sp - 2) = true) :
    push16 v s = .ok { (s.store (storageKey (s.sp - 1)) (hi v)).store (storageKey (s.sp - 2)) (lo v) with
      sp := s.sp - 2 } := by
  simp only [push16, memWrite_plain hhigh, ok_bind, State.store_sp, sub_one_sub_one, memWrite_plain hlow]
  rfl

/-- A pop from plain storage reads the two bytes. -/
theorem pop16_plain {s : State} (hlow : plainAddress s.sp = true) (hhigh : plainAddress (s.sp + 1) = true) :
    pop16 s = .ok (pair (s.load (storageKey (s.sp + 1))) (s.load (storageKey s.sp)), { s with sp := s.sp + 2 }) :=
  pop16_of_reads ⟨_, _, s, reads_of_memRead (memRead_plain hlow s), reads_of_memRead (memRead_plain hhigh s), rfl⟩

/-- What is pushed onto plain storage is what is popped (R150). -/
theorem pop16_push16_plain {s : State} (v : Word) (hhigh : plainAddress (s.sp - 1) = true)
    (hlow : plainAddress (s.sp - 2) = true) :
    ∃ t, push16 v s = .ok t ∧ pop16 t = .ok (v, { t with sp := s.sp }) := by
  have hsp : s.sp - 2 + 1 = s.sp - 1 := by ring
  have hback : s.sp - 2 + 2 = s.sp := by ring
  have hkeys : storageKey (s.sp - 1) ≠ storageKey (s.sp - 2) := by
    rw [← sub_one_sub_one]
    exact storageKey_sub_one_ne hhigh
  refine ⟨_, push16_plain v hhigh hlow, ?_⟩
  rw [pop16_plain hlow (by rw [hsp]; exact hhigh)]
  simp only [hsp, hback, State.load_withSp, State.load_store_same, State.load_store_ne _ _ hkeys, pair_hi_lo]

/-- Settles O18: the reads, the writes and the stack in terms of the one-byte accesses; the second byte of a write at 0xFFFF
goes to 0x0000, the RAM-enable window. -/
theorem twoByteAccesses : Obligations.TwoByteAccesses := by
  refine ⟨fun _ _ _ _ _ _ => memRead16_of_reads, fun _ _ _ _ => memWrite16_of_low, fun s v hk => ?_, fun s v h => ?_,
    fun _ _ _ => pop16_of_reads, fun _ v => pop16_push16_plain v⟩
  · rw [memWrite16_of_low (memWrite_plain rfl (lo v) s)]
    exact memWrite_ramEnable (s := s.store Port.IE (lo v)) (a := 0xFFFF + 1) hk (by decide) (hi v)
  · obtain ⟨t, u, hhigh, hlow, hpush⟩ := push16_of_writable h
    exact ⟨t, u, hhigh, hlow, hpush, (access_of_memWrite hlow).core.sp⟩

end Sys2Proof.Machine
end

section
/-! PROOFS. Accesses as whole instructions (40_load.md R130): what an instruction whose meaning starts with a read, or is a write,
answers where the access completes and where it faults; and the encoding of a form. -/

namespace Sys2Proof.Machine

/-- The bytes of a form's instruction. -/
@[simp] theorem encode_instr (p : Config.StopLen) (f : Form) : encode p f.instr = encodeForm p f :=
  congrArg (encodeForm p) (form_instr f)

variable {s t : State} {a : Word} {v : Byte} {c : Nat}

theorem complete_of_error {r : Except Fault State} {f : Fault} (h : r = .error f) : complete c r = .fault f :=
  congrArg (complete c) h

/-! ## Reads -/

/-- An instruction that starts with a read goes on with the byte, in the state the read leaves. -/
theorem complete_read (h : s.Reads a v t) (k : Byte × State → Except Fault State) :
    complete c (memRead a s >>= k) = complete c (k (v, t)) := by
  rw [memRead_of_reads h, ok_bind]

/-- An instruction that starts with a read out of range faults with nothing changed (R92). -/
theorem complete_read_outOfRange {off : Nat} (h : busView s a = .outOfRange off)
    (k : Byte × State → Except Fault State) :
    complete c (memRead a s >>= k) = faulted (.cartridgeOutOfRange off) s := by
  rw [memRead_outOfRange h]
  rfl

theorem opLoadA_of_reads (h : s.Reads a v t) : opLoadA c a s = .next { t.setR8 .A v with cost := c } :=
  complete_read h _

theorem opLoadA_outOfRange {off : Nat} (h : busView s a = .outOfRange off) :
    opLoadA c a s = faulted (.cartridgeOutOfRange off) s :=
  complete_read_outOfRange h _

/-- LD A,(HL+) and LD A,(HL-) move HL from where the address was taken. -/
theorem opLoadAStep_of_reads (h : s.Reads s.hl v t) (step : Word) :
    opLoadAStep step s = .next { (t.setR8 .A v).setHL (s.hl + step) with cost := 8 } := by
  rw [← show (t.setR8 .A v).hl = s.hl from h.hl]
  exact complete_read h _

/-- A load of A from the high page completes in every state. -/
theorem opLoadA_highPage (s : State) (n : Byte) : ∃ v t, s.Reads (highPage n) v t ∧
    opLoadA c (highPage n) s = .next { t.setR8 .A v with cost := c } := by
  obtain ⟨v, t, h⟩ := readable_iff_reads.1 (readable_highPage s n)
  exact ⟨v, t, h, opLoadA_of_reads h⟩

/-! ## Writes -/

theorem complete_write (h : s.Writable a v) (c : Nat) : ∃ t, memWrite a v s = .ok t ∧
    complete c (memWrite a v s) = .next { t with cost := c } := by
  obtain ⟨t, ht⟩ := memWrite_of_writable h
  exact ⟨t, ht, congrArg (complete c) ht⟩

/-- A write that faults has changed no register. -/
theorem regs_of_memWrite_error {f : Fault} (h : memWrite a v s = .error f) : f.final.regs = s.regs := by
  obtain ⟨k, t, rfl, haccess⟩ := (within_memWrite a v s).2 f h
  rw [FaultKind.final_toFault]
  exact haccess.core.regs

/-- LD (HL+),A and LD (HL-),A: one write, then HL moved from where it was. -/
theorem opStoreAStep_of_writable (h : s.Writable s.hl s.regs.a) : ∃ t, memWrite s.hl s.regs.a s = .ok t ∧
    ∀ step, opStoreAStep step s = .next { t.setHL (s.hl + step) with cost := 8 } := by
  obtain ⟨t, ht⟩ := memWrite_of_writable h
  have hhl : t.hl = s.hl := by simp only [State.hl, (access_of_memWrite ht).core.regs]
  refine ⟨t, ht, fun step => ?_⟩
  rw [opStoreAStep, ht, ok_bind, hhl]
  rfl

theorem opStoreAStep_of_error {f : Fault} (h : memWrite s.hl s.regs.a s = .error f) (step : Word) :
    opStoreAStep step s = .fault f :=
  complete_of_error (by rw [h, error_bind])

/-! ## Writes of the high page (R140, R142) -/

theorem toNat_highPage (n : Byte) : (highPage n).toNat = 0xFF00 + n.toNat := by
  have hn := n.isLt
  rw [highPage, BitVec.toNat_add, BitVec.toNat_setWidth, BitVec.toNat_ofNat]
  omega

/-- The high page can be written but for LY, and for a DMA copy from a page that cannot be read. -/
theorem writable_highPage {n : Byte} (hly : n ≠ 0x44)
    (hdma : n = 0x46 → ∀ i < 160, s.Readable (pair v 0 + BitVec.ofNat 16 i)) : s.Writable (highPage n) v := by
  have hport : ∀ m : Byte, (highPage n).toNat = 0xFF00 + m.toNat → n = m := fun m h => by
    rw [toNat_highPage] at h
    exact BitVec.eq_of_toNat_eq (by omega)
  refine ⟨fun h => hly (hport 0x44 h), fun hr => ?_, fun h => hdma (hport 0x46 h)⟩
  have hb : 0xA000 ≤ (highPage n).toNat ∧ (highPage n).toNat ≤ 0xBFFF := bounds_of_region hr
  rw [toNat_highPage] at hb
  omega

end Sys2Proof.Machine
end

section
/-! PROOFS. A sprite-table copy that a read stops (20_memory.md R73, R92). -/

namespace Sys2Proof.Machine

/-- What the first `n` passes of a copy from page `v` leave: the stored bytes of the page in the first `n` bytes of the sprite
table, and every other byte as it was. -/
structure CopiesFirst (v : Byte) (n : Nat) (s t : State) : Prop where
  same   : t = { s with mem := t.mem, draws := t.draws }
  copied : ∀ j < n, ∀ b, busView s (pair v 0 + BitVec.ofNat 16 j) = .stored b → t.load (0xFE00 + j) = b
  load   : ∀ k, ¬ (0xFE00 ≤ k ∧ k < 0xFE00 + n) → t.load k = s.load k

theorem CopiesFirst.copies {v : Byte} {n : Nat} {s t : State} (h : CopiesFirst v n s t) (hn : n ≤ 160) : Copies s t :=
  ⟨h.same, fun k hk => h.load k (by omega)⟩

/-- One more pass: its source lies outside the sprite table, so it shows what it showed before the copy. -/
theorem CopiesFirst.pass {v : Byte} {n : Nat} {s t u : State} {b : Byte} (h : CopiesFirst v n s t) (hv : v ≠ 0xFE)
    (hn : n < 160) (hread : t.Reads (pair v 0 + BitVec.ofNat 16 n) b u) :
    CopiesFirst v (n + 1) s (u.store (0xFE00 + n) b) := by
  have hload : ∀ k, u.load k = t.load k := hread.byteAt .bus
  refine ⟨((h.copies hn.le).trans (copies_pass hn hread)).same, fun j hj b' hb' => ?_, fun k hk => ?_⟩
  · rw [State.load_store]
    split_ifs with hlast
    · obtain rfl : j = n := by omega
      rw [← (h.copies hn.le).view (pageAddress_not_oam hv hn)] at hb'
      obtain ⟨hb, -⟩ | ⟨hb, -⟩ := hread
      · exact BusByte.stored.inj (hb.symm.trans hb')
      · cases hb.symm.trans hb'
    · rw [hload]
      exact h.copied j (by omega) b' hb'
  · rw [State.load_store_ne _ _ (by omega), hload]
    exact h.load k (by omega)

theorem dmaCopy_first {v : Byte} {s : State} (hv : v ≠ 0xFE) {n : Nat} (hn : n ≤ 160)
    (hr : ∀ j < n, s.Readable (pair v 0 + BitVec.ofNat 16 j)) :
    ∃ t, CopiesFirst v n s t ∧ dmaCopy v (List.range n) s = .ok t := by
  induction n with
  | zero => exact ⟨s, ⟨rfl, fun _ hj => absurd hj (Nat.not_lt_zero _), fun _ _ => rfl⟩, rfl⟩
  | succ n ih =>
    obtain ⟨t, hfirst, hcopy⟩ := ih (by omega) fun j hj => hr j (by omega)
    obtain ⟨b, u, hread⟩ := readable_iff_reads.1 ((hfirst.copies (by omega)).readable (hr n (by omega)))
    refine ⟨_, hfirst.pass hv hn hread, ?_⟩
    rw [List.range_succ, dmaCopy_append, hcopy, ok_bind]
    simp only [dmaCopy, memRead_of_reads hread]

/-- The sprite table itself can always be read. -/
theorem page_ne_oam_of_outOfRange {v : Byte} {s : State} {i off : Nat} (hi : i < 160)
    (h : busView s (pair v 0 + BitVec.ofNat 16 i) = .outOfRange off) : v ≠ 0xFE := by
  rintro rfl
  have hoam : region (pair 0xFE 0 + BitVec.ofNat 16 i) = .oam := by
    rw [region_eq_iff, toNat_pageAddress _ (by omega)]
    exact ⟨Nat.le_add_right 0xFE00 i, show 0xFE00 + i ≤ 0xFE9F by omega⟩
  simp only [busView, hoam] at h
  cases h

/-- A copy that meets a read out of range at index `i`, and none before, faults there with the bytes before it copied. -/
theorem dmaCopy_outOfRange {v : Byte} {s : State} {i off : Nat} (hi : i < 160)
    (hr : ∀ j < i, s.Readable (pair v 0 + BitVec.ofNat 16 j))
    (hout : busView s (pair v 0 + BitVec.ofNat 16 i) = .outOfRange off) :
    ∃ t, CopiesFirst v i s t ∧ dmaCopy v (List.range 160) s = raise (.cartridgeOutOfRange off) t := by
  have hv : v ≠ 0xFE := page_ne_oam_of_outOfRange hi hout
  obtain ⟨t, hfirst, hcopy⟩ := dmaCopy_first hv hi.le hr
  have hview : busView t (pair v 0 + BitVec.ofNat 16 i) = .outOfRange off :=
    ((hfirst.copies hi.le).view (pageAddress_not_oam hv hi)).trans hout
  obtain ⟨m, hm⟩ : ∃ m, 160 = i + (m + 1) := ⟨159 - i, by omega⟩
  refine ⟨t, hfirst, ?_⟩
  rw [hm, List.range_add, List.range_succ_eq_map, List.map_cons, dmaCopy_append, hcopy, ok_bind, dmaCopy, Nat.add_zero,
    memRead_outOfRange hview]
  rfl

end Sys2Proof.Machine
end

section
/-! PROOFS. The loads, the stores and the stack transfers of 40_load.md (R131 to R154): each form's operation, run by the rule of
its access. -/

namespace Sys2Proof.Machine

/-- Settles O20: every load of a byte starts with one read. -/
theorem memoryLoads : Obligations.MemoryLoads := by
  refine ⟨fun p d => encode_instr p (.ldRM d), fun p => ⟨encode_instr p (.ldAInd .BC), encode_instr p (.ldAInd .DE)⟩,
    fun p w => encode_instr p (.ldAAbs w), ?_, ?_, ?_, ?_, ?_, ?_, ?_,
    fun p => ⟨encode_instr p .ldAInc, encode_instr p .ldADec⟩, ?_, ?_,
    fun p n => ⟨encode_instr p (.ldhAI n), encode_instr p .ldAC⟩, ?_, ?_⟩ <;> simp only [exec_instr]
  -- the loads at a register pair or an address of the instruction
  · exact fun s t v d h => complete_read h _
  · exact fun s t v h => opLoadA_of_reads h
  · exact fun s t v h => opLoadA_of_reads h
  · exact fun s t v w h => opLoadA_of_reads h
  · exact fun s d off h => complete_read_outOfRange h _
  · exact fun s q off h => opLoadA_outOfRange h
  · exact fun s w off h => opLoadA_outOfRange h
  -- the loads that move HL
  · intro s t v h
    rw [sub_eq_add_neg]
    exact ⟨opLoadAStep_of_reads h 1, opLoadAStep_of_reads h (-1)⟩
  · exact fun s off h => ⟨complete_read_outOfRange h _, complete_read_outOfRange h _⟩
  -- the loads from the high page
  · exact fun s n => opLoadA_highPage s n
  · exact fun s => opLoadA_highPage s s.regs.c

/-- Settles O21: every store of a byte is one write; the write of LY and the DMA copy that is stopped fault there. -/
theorem memoryStores : Obligations.MemoryStores := by
  refine ⟨fun p x => encode_instr p (.ldMR x), fun p => ⟨encode_instr p (.ldIndA .BC), encode_instr p (.ldIndA .DE)⟩,
    fun p w => encode_instr p (.ldAbsA w), ?_, ?_, ?_, ?_, ?_, ?_, ?_,
    fun p => ⟨encode_instr p .ldIncA, encode_instr p .ldDecA⟩, ?_, ?_,
    fun p n => ⟨encode_instr p (.ldhIA n), encode_instr p .ldCA⟩, ?_, ?_, ?_⟩ <;> simp only [exec_instr]
  -- the stores at a register pair or an address of the instruction
  · exact fun s x h => complete_write h 8
  · exact fun s h => complete_write h 8
  · exact fun s h => complete_write h 8
  · exact fun s w h => complete_write h 16
  · exact fun s x f h => complete_of_error h
  · exact fun s q f h => complete_of_error h
  · exact fun s w f h => complete_of_error h
  -- the stores that move HL
  · intro s h
    obtain ⟨t, ht, hstep⟩ := opStoreAStep_of_writable h
    rw [sub_eq_add_neg]
    exact ⟨t, ht, hstep 1, hstep (-1)⟩
  · exact fun s f h => ⟨opStoreAStep_of_error h 1, opStoreAStep_of_error h (-1),
      by simp only [State.hl, regs_of_memWrite_error h]⟩
  -- the stores to the high page
  · intro s n hly hdma
    obtain ⟨t, ht, h12⟩ := complete_write (writable_highPage hly hdma) 12
    refine ⟨t, ht, h12, ?_⟩
    rintro rfl
    exact congrArg (complete 8) ht
  · intro s
    have hly := memWrite_ly (a := highPage 0x44) rfl s.regs.a s
    refine ⟨complete_of_error (c := 12) hly, fun hc => complete_of_error ?_⟩
    rw [hc]
    exact hly
  · intro s i off hi hr hout
    obtain ⟨u, hfirst, hcopy⟩ := dmaCopy_outOfRange hi hr hout
    have hdma := (memWrite_dma (a := highPage 0x46) rfl s.regs.a s).trans hcopy
    refine ⟨u, hfirst.same, hfirst.copied, hfirst.load, complete_of_error hdma, fun hc => complete_of_error ?_⟩
    rw [hc]
    exact hdma

/-- Settles O22: LD (a16),SP is its two writes, PUSH is one push, and POP one pop and the pair written. -/
theorem stackTransfers : Obligations.StackTransfers := by
  refine ⟨fun p w => encode_instr p (.ldAbsSP w), ?_, ?_, ?_,
    fun p q => ⟨encode_instr p (.push q), encode_instr p (.pop q)⟩, ?_, ?_, ?_, ?_⟩ <;> simp only [exec_instr]
  · intro s w hlow hhigh
    obtain ⟨t, ht⟩ := memWrite_of_writable hlow
    obtain ⟨u, hu⟩ := memWrite_of_writable (writable_of_memWrite (.inl rfl) ht hhigh)
    exact ⟨t, u, ht, hu, congrArg (complete 20) ((memWrite16_of_low ht).trans hu)⟩
  · exact fun s w f h => complete_of_error (by rw [memWrite16, h, error_bind])
  · exact fun s t w f ht h => complete_of_error ((memWrite16_of_low ht).trans h)
  · intro s q h
    obtain ⟨t, u, -, -, hpush⟩ := push16_of_writable h
    exact ⟨u, hpush, congrArg (complete 16) hpush⟩
  · exact fun s q f h => complete_of_error h
  · intro s t w h
    have hpop : ∀ q, opPop q s = .next { State.setStackPair { t with sp := s.sp + 2 } q w with cost := 12 } := fun q => by
      rw [opPop, pop16_of_reads h, ok_bind]
      rfl
    exact ⟨hpop .BC, hpop .DE, hpop .HL, hpop .AF⟩
  · exact fun s q f h => complete_of_error (by rw [h, error_bind])

/-- Settles O19: the register loads complete with their one update, and LD (HL),d8 is one write. -/
theorem registerAndImmediateLoads : Obligations.RegisterAndImmediateLoads := by
  refine ⟨fun p d n s => ⟨encode_instr p (.ldRI d n), ?_⟩, fun p n s => ⟨encode_instr p (.ldMI n), ?_, ?_⟩,
    fun p d x s => ⟨encode_instr p (.ldRR d x), ?_⟩, fun p q w s => ⟨encode_instr p (.ldRrI q w), ?_⟩,
    fun p s => ⟨encode_instr p .ldSPHL, ?_⟩⟩ <;> rw [exec_instr]
  · exact complete_ok 8 _
  · exact fun h => complete_write h 12
  · exact fun f h => complete_of_error h
  · exact complete_ok 4 _
  · exact complete_ok 12 _
  · exact complete_ok 8 _

end Sys2Proof.Machine
end

section
/-! PROOFS. The carry law of R171 over the integers: bit `i` of `x ^ y ^ raw` is the carry or the borrow into that bit, so that the
results and flags of ADD, ADC, SUB, SBC and CP are those of Safety.lean. -/

namespace Sys2Proof.Machine

/-! ## Carries at every width -/

theorem ofNat_flagNat (w : Nat) (c : Bool) : BitVec.ofNat w (flagNat c) = (BitVec.ofBool c).setWidth w := by
  cases c
  · exact (BitVec.setWidth_zero w 1).symm
  · exact BitVec.eq_of_toNat_eq (by simp [flagNat])

theorem flagNat_le_one (c : Bool) : flagNat c ≤ 1 := by cases c <;> decide

section
variable {w i : Nat} (x y : BitVec w) (cin : Bool)

/-- Bit `i` of `x ^ y ^ (x + y + cin)` is the carry into bit `i`. -/
theorem getLsbD_xor_sum (hi : i < w) : (x ^^^ y ^^^ (x + y + BitVec.ofNat w (flagNat cin))).getLsbD i =
    decide (2 ^ i ≤ x.toNat % 2 ^ i + y.toNat % 2 ^ i + flagNat cin) := by
  have hcarry : BitVec.carry i x y cin = decide (2 ^ i ≤ x.toNat % 2 ^ i + y.toNat % 2 ^ i + flagNat cin) := by
    cases cin <;> rfl
  rw [ofNat_flagNat, BitVec.getLsbD_xor, BitVec.getLsbD_xor, BitVec.getLsbD_add_add_bool hi, hcarry]
  cases x.getLsbD i <;> cases y.getLsbD i <;> simp

/-- Bit `i` of `x ^ y ^ (x - y - cin)` is the borrow from bit `i`: the carry into bit `i` of the sum that gives `x` back. -/
theorem getLsbD_xor_difference (hi : i < w) : (x ^^^ y ^^^ (x - y - BitVec.ofNat w (flagNat cin))).getLsbD i =
    decide (x.toNat % 2 ^ i < y.toNat % 2 ^ i + flagNat cin) := by
  obtain ⟨r, rfl⟩ : ∃ r, x = r + y + BitVec.ofNat w (flagNat cin) := ⟨x - y - BitVec.ofNat w (flagNat cin), by ring⟩
  have hr : r + y + BitVec.ofNat w (flagNat cin) - y - BitVec.ofNat w (flagNat cin) = r := by ring
  have hx : (r + y + BitVec.ofNat w (flagNat cin)).toNat % 2 ^ i =
      (r.toNat % 2 ^ i + y.toNat % 2 ^ i + flagNat cin) % 2 ^ i := by
    have hdvd : 2 ^ i ∣ 2 ^ w := Nat.pow_dvd_pow 2 hi.le
    simp [BitVec.toNat_add, Nat.mod_mod_of_dvd _ hdvd, Nat.add_mod]
  rw [hr, BitVec.xor_assoc, BitVec.xor_comm, BitVec.xor_comm y, getLsbD_xor_sum r y cin hi, hx, decide_eq_decide]
  have hc := flagNat_le_one cin
  have hR := Nat.mod_lt r.toNat (Nat.two_pow_pos i)
  have hY := Nat.mod_lt y.toNat (Nat.two_pow_pos i)
  generalize r.toNat % 2 ^ i = R at *
  generalize y.toNat % 2 ^ i = Y at *
  generalize 2 ^ i = P at *
  obtain h | h := Nat.lt_or_ge (R + Y + flagNat cin) P
  · rw [Nat.mod_eq_of_lt h]
    omega
  · rw [Nat.mod_eq_sub_mod h, Nat.mod_eq_of_lt (by omega)]
    omega

end

/-! ## Bytes (R171 to R176) -/

section
variable (a b : Byte) (cin : Bool)

theorem setWidth_addRaw : (addRaw a b cin).setWidth 8 = sumByte a b cin := by
  refine BitVec.eq_of_toNat_eq ?_
  have hc := flagNat_le_one cin
  simp only [addRaw, sumByte, BitVec.toNat_setWidth, BitVec.toNat_add, BitVec.toNat_ofNat]
  omega

theorem setWidth_subRaw : (subRaw a b cin).setWidth 8 = differenceByte a b cin := by
  refine BitVec.eq_of_toNat_eq ?_
  have hc := flagNat_le_one cin
  simp only [subRaw, differenceByte, BitVec.toNat_setWidth, BitVec.toNat_sub, BitVec.toNat_ofNat, BitVec.toNat_ofInt]
  omega

theorem sumByte_eq_zero_iff : sumByte a b cin = 0#8 ↔ (a.toNat + b.toNat + flagNat cin) % 256 = 0 := BitVec.toNat_inj.symm

theorem differenceByte_eq_zero_iff :
    differenceByte a b cin = 0#8 ↔ ((a.toNat : Int) - b.toNat - flagNat cin) % 256 = 0 := by
  rw [← BitVec.toNat_inj, differenceByte, BitVec.toNat_ofInt]
  show (_ : Int).toNat = 0 ↔ _
  omega

/-- ADD and ADC give the integer sum and its carries. -/
theorem add8_eq : add8 a b cin = (sumByte a b cin, sumFlags a b cin) := by
  have ha := a.isLt
  have hb := b.isLt
  have hcarry : ∀ i < 16, (a.setWidth 16 ^^^ b.setWidth 16 ^^^ addRaw a b cin).getLsbD i =
      decide (2 ^ i ≤ a.toNat % 2 ^ i + b.toNat % 2 ^ i + flagNat cin) := fun i hi => by
    rw [addRaw, getLsbD_xor_sum _ _ _ hi, BitVec.toNat_setWidth_of_le (by decide),
      BitVec.toNat_setWidth_of_le (by decide)]
  simp only [add8, rawFlags, sumFlags, setWidth_addRaw, sumByte_eq_zero_iff, hcarry 4 (by decide), hcarry 8 (by decide)]
  rw [Nat.mod_eq_of_lt ha, Nat.mod_eq_of_lt hb]
  rfl

/-- SUB, SBC and CP give the integer difference and its borrows. -/
theorem sub8_eq : sub8 a b cin = (differenceByte a b cin, differenceFlags a b cin) := by
  have ha := a.isLt
  have hb := b.isLt
  have hborrow : ∀ i < 16, (a.setWidth 16 ^^^ b.setWidth 16 ^^^ subRaw a b cin).getLsbD i =
      decide (a.toNat % 2 ^ i < b.toNat % 2 ^ i + flagNat cin) := fun i hi => by
    rw [subRaw, getLsbD_xor_difference _ _ _ hi, BitVec.toNat_setWidth_of_le (by decide),
      BitVec.toNat_setWidth_of_le (by decide)]
  simp only [sub8, rawFlags, differenceFlags, setWidth_subRaw, differenceByte_eq_zero_iff, hborrow 4 (by decide),
    hborrow 8 (by decide)]
  rw [Nat.mod_eq_of_lt ha, Nat.mod_eq_of_lt hb]
  rfl

/-- CP leaves A, and the borrows of the difference. -/
theorem alu8_cp (f : Flags) : alu8 .cp a b f = (a, differenceFlags a b false) :=
  congrArg (fun r => (a, r.2)) (sub8_eq a b false)

end

end Sys2Proof.Machine
end

section
/-! PROOFS. The ALU operations on A in their three operand forms (41_alu8.md R170, R172 to R179): each is what `alu8` gives, computed
from A and the flags before the instruction. -/

namespace Sys2Proof.Machine

section
variable {s t : State} {x : Operand8} {v r : Byte} {o : AluOp} {f : Flags}

theorem opAlu_of_alu8 (h : s.OperandReads x v t) (halu : alu8 o s.regs.a v s.flags = (r, f)) :
    opAlu o x s = .next { (t.setR8 .A r).setFlags f with cost := operandCost x 4 8 } := by
  obtain ⟨hread, hregs, hflags⟩ := readOperand_of_reads h
  rw [opAlu, hread, ok_bind]
  simp only [applyAlu, hregs, hflags, halu, pure_ok, complete_ok]

theorem opAluI_of_alu8 (halu : alu8 o s.regs.a v s.flags = (r, f)) :
    opAluI o v s = .next { (s.setR8 .A r).setFlags f with cost := 8 } := by
  simp only [opAluI, applyAlu, halu, complete_ok]

theorem opAlu_outOfRange {off : Nat} (h : busView s s.hl = .outOfRange off) (o : AluOp) :
    opAlu o .mHL s = faulted (.cartridgeOutOfRange off) s :=
  complete_read_outOfRange h _

theorem opAlu_cp (h : s.OperandReads x v t) :
    opAlu .cp x s = .next { t.setFlags (differenceFlags s.regs.a v false) with cost := operandCost x 4 8 } := by
  obtain ⟨-, hregs, -⟩ := readOperand_of_reads h
  rw [opAlu_of_alu8 h (alu8_cp _ _ _), ← hregs]
  rfl

theorem opAluI_cp (s : State) (n : Byte) :
    opAluI .cp n s = .next { s.setFlags (differenceFlags s.regs.a n false) with cost := 8 } :=
  opAluI_of_alu8 (alu8_cp _ _ _)

end

/-- Settles O23: ADD and ADC are `add8`, which gives the integer sum and its carries. -/
theorem addWithCarry : Obligations.AddWithCarry := by
  refine ⟨fun p x n => ⟨encode_instr p (.alu .add x), encode_instr p (.aluI .add n), encode_instr p (.alu .adc x),
    encode_instr p (.aluI .adc n)⟩, ?_, ?_, ?_⟩ <;> simp only [exec_instr]
  · exact fun s t x v h => ⟨opAlu_of_alu8 h (add8_eq _ _ _), opAlu_of_alu8 h (add8_eq _ _ _)⟩
  · exact fun s n => ⟨opAluI_of_alu8 (add8_eq _ _ _), opAluI_of_alu8 (add8_eq _ _ _)⟩
  · exact fun s off h => ⟨opAlu_outOfRange h .add, opAlu_outOfRange h .adc⟩

/-- Settles O24: SUB, SBC and CP are `sub8`, which gives the integer difference and its borrows. -/
theorem subtractAndCompare : Obligations.SubtractAndCompare := by
  refine ⟨fun p x n => ⟨encode_instr p (.alu .sub x), encode_instr p (.aluI .sub n), encode_instr p (.alu .sbc x),
    encode_instr p (.aluI .sbc n), encode_instr p (.alu .cp x), encode_instr p (.aluI .cp n)⟩, ?_, ?_, ?_⟩ <;>
    simp only [exec_instr]
  · exact fun s t x v h => ⟨opAlu_of_alu8 h (sub8_eq _ _ _), opAlu_of_alu8 h (sub8_eq _ _ _), opAlu_cp h⟩
  · exact fun s n => ⟨opAluI_of_alu8 (sub8_eq _ _ _), opAluI_of_alu8 (sub8_eq _ _ _), opAluI_cp s n⟩
  · exact fun s off h => ⟨opAlu_outOfRange h .sub, opAlu_outOfRange h .sbc, opAlu_outOfRange h .cp⟩

/-- Settles O25: AND, XOR and OR are their arms of `alu8`. -/
theorem logicalOperations : Obligations.LogicalOperations := by
  refine ⟨fun p x n => ⟨encode_instr p (.alu .and x), encode_instr p (.aluI .and n), encode_instr p (.alu .xor x),
    encode_instr p (.aluI .xor n), encode_instr p (.alu .or x), encode_instr p (.aluI .or n)⟩, ?_, ?_, ?_⟩ <;>
    simp only [exec_instr]
  · exact fun s t x v h => ⟨opAlu_of_alu8 h rfl, opAlu_of_alu8 h rfl, opAlu_of_alu8 h rfl⟩
  · exact fun s n => ⟨opAluI_of_alu8 rfl, opAluI_of_alu8 rfl, opAluI_of_alu8 rfl⟩
  · exact fun s off h => ⟨opAlu_outOfRange h .and, opAlu_outOfRange h .xor, opAlu_outOfRange h .or⟩

end Sys2Proof.Machine
end

section
/-! PROOFS. INC and DEC of a register and of the byte at HL (41_alu8.md R180 to R183). -/

namespace Sys2Proof.Machine

theorem toNat_low_nibble (v : Byte) : (v &&& 0x0F).toNat = v.toNat % 16 :=
  (BitVec.toNat_and ..).trans (Nat.and_two_pow_sub_one_eq_mod v.toNat 4)

/-- INC: Z where the byte before was 0xFF, H from its low nibble. -/
theorem inc8_eq (v : Byte) (f : Flags) :
    inc8 v f = (v + 1, { z := decide (v = 0xFF), n := false, h := decide (v.toNat % 16 = 15), c := f.c }) := by
  have hz : v + 1 = 0 ↔ v = 0xFF := by bv_omega
  have hh : v &&& 0x0F = 0x0F ↔ v.toNat % 16 = 15 := by rw [← toNat_low_nibble, ← BitVec.toNat_inj]; rfl
  simp only [inc8, hz, hh]

/-- DEC: Z where the byte before was 0x01, H from its low nibble. -/
theorem dec8_eq (v : Byte) (f : Flags) :
    dec8 v f = (v - 1, { z := decide (v = 0x01), n := true, h := decide (v.toNat % 16 = 0), c := f.c }) := by
  have hz : v - 1 = 0 ↔ v = 0x01 := by bv_omega
  have hh : v &&& 0x0F = 0x00 ↔ v.toNat % 16 = 0 := by rw [← toNat_low_nibble, ← BitVec.toNat_inj]; rfl
  simp only [dec8, hz, hh]

/-- A write that faults has changed no flag. -/
theorem flags_of_memWrite_error {s : State} {a : Word} {v : Byte} {f : Fault} (h : memWrite a v s = .error f) :
    f.final.flags = s.flags := by
  obtain ⟨k, t, rfl, haccess⟩ := (within_memWrite a v s).2 f h
  rw [FaultKind.final_toFault]
  exact haccess.core.flags

/-! ## The byte at HL -/

/-- INC (HL) and DEC (HL): the byte at HL replaced by a function of it, and flags computed from it and the flags before. -/
def updateAtHL (g : Byte → Flags → Byte × Flags) (s : State) : Host.Outcome State Fault Refusal := complete 12 do
  let (v, s) ← memRead s.hl s
  let r := g v s.flags
  let s ← memWrite s.hl r.1 s
  return s.setFlags r.2

theorem opIncM_eq : opIncM = updateAtHL inc8 := rfl

theorem opDecM_eq : opDecM = updateAtHL dec8 := rfl

section
variable {s t : State} {v r : Byte} {g : Byte → Flags → Byte × Flags} {f : Flags}

theorem updateAtHL_of_reads (h : s.Reads s.hl v t) (hg : g v s.flags = (r, f)) :
    updateAtHL g s = complete 12 (memWrite s.hl r t >>= fun u => .ok (u.setFlags f)) := by
  rw [updateAtHL, complete_read h]
  simp only [h.hl, h.access.core.flags, hg, pure_ok]

theorem updateAtHL_of_writable (h : s.Reads s.hl v t) (hg : g v s.flags = (r, f)) (hw : s.Writable s.hl r) :
    ∃ u, memWrite s.hl r t = .ok u ∧ updateAtHL g s = .next { u.setFlags f with cost := 12 } := by
  obtain ⟨u, hu⟩ := memWrite_of_writable (h.writable hw)
  exact ⟨u, hu, by rw [updateAtHL_of_reads h hg, hu, ok_bind, complete_ok]⟩

theorem updateAtHL_of_error {e : Fault} (h : s.Reads s.hl v t) (hg : g v s.flags = (r, f))
    (he : memWrite s.hl r t = .error e) : updateAtHL g s = .fault e ∧ e.final.flags = s.flags :=
  ⟨by rw [updateAtHL_of_reads h hg, he, error_bind, complete_error],
    (flags_of_memWrite_error he).trans h.access.core.flags⟩

theorem updateAtHL_outOfRange {off : Nat} (h : busView s s.hl = .outOfRange off)
    (g : Byte → Flags → Byte × Flags) : updateAtHL g s = faulted (.cartridgeOutOfRange off) s :=
  complete_read_outOfRange h _

end

/-- Settles O26: INC and DEC are `inc8` and `dec8` of a register, or of the byte at HL by one read and one write. -/
theorem incrementDecrement : Obligations.IncrementDecrement := by
  refine ⟨fun p d s => ⟨encode_instr p (.incR d), encode_instr p (.decR d), ?_, ?_⟩,
    fun p => ⟨encode_instr p .incM, encode_instr p .decM⟩, ?_, ?_, ?_, ?_⟩ <;>
    simp only [exec_instr, Form.meaning, opIncM_eq, opDecM_eq]
  · simp only [opIncR, inc8_eq, complete_ok]
  · simp only [opDecR, dec8_eq, complete_ok]
  · exact fun s t v h hw => updateAtHL_of_writable h (inc8_eq v s.flags) hw
  · exact fun s t v h hw => updateAtHL_of_writable h (dec8_eq v s.flags) hw
  · exact fun s t v f h => ⟨updateAtHL_of_error h (inc8_eq v s.flags), updateAtHL_of_error h (dec8_eq v s.flags)⟩
  · exact fun s off h => ⟨updateAtHL_outOfRange h inc8, updateAtHL_outOfRange h dec8⟩

end Sys2Proof.Machine
end

section
/-! PROOFS. DAA and the accumulator's flag operations (41_alu8.md R184 to R187), and decimal arithmetic. -/

namespace Sys2Proof.Machine

/-! ## The adjustment in one expression -/

section
variable {a : Byte} {f : Flags}

/-- After an addition the two corrections are decided by C and H and by the accumulator itself: 0x60 leaves the low digit. -/
theorem decimalAdjust_of_add (hn : f.n = false) : decimalAdjust a f =
    (BitVec.ofNat 8 (a.toNat + (if f.c = true ∨ 0x99 < a.toNat then 0x60 else 0) +
      if f.h = true ∨ 9 < a.toNat % 16 then 6 else 0), decide (f.c = true ∨ 0x99 < a.toNat)) := by
  have hdigit : (a.toNat + 0x60) % 16 = a.toNat % 16 := by omega
  have hc : f.c = true → f.c = true ∨ 0x99 < a.toNat := .inl
  by_cases hhigh : f.c = true ∨ 0x99 < a.toNat
  · simp only [decimalAdjust, hn, hhigh, hdigit, gt_iff_lt, Bool.false_eq_true, if_false, if_true, decide_true]
    split_ifs <;> rfl
  · simp only [decimalAdjust, hn, hhigh, gt_iff_lt, Bool.false_eq_true, if_false, decide_false]
    rw [Bool.eq_false_of_not_eq_true (mt hc hhigh)]
    split_ifs <;> rfl

/-- After a subtraction C and H alone decide. -/
theorem decimalAdjust_of_sub (hn : f.n = true) : decimalAdjust a f =
    (BitVec.ofInt 8 (a.toNat - 0x60 * flagNat f.c - 6 * flagNat f.h), f.c) := by
  simp only [decimalAdjust, hn, if_true]
  cases f.c <;> cases f.h <;> simp [flagNat]

theorem daa8_of_add (hn : f.n = false) : ((daa8 a f).1, (daa8 a f).2.c) = decimalAdjust a f := by
  have hhigh : (f.c || (!f.n && decide (a.toNat > 0x99))) = decide (f.c = true ∨ 0x99 < a.toNat) := by simp [hn]
  have hlow : (f.h || (!f.n && decide ((a &&& 0x0F).toNat > 0x09))) = decide (f.h = true ∨ 9 < a.toNat % 16) := by
    rw [toNat_low_nibble]
    simp [hn]
  rw [decimalAdjust_of_add hn]
  simp only [daa8, hhigh, hlow]
  simp only [hn, Bool.false_eq_true, if_false, decide_eq_true_iff, BitVec.ofNat_add, BitVec.add_assoc, BitVec.ofNat_toNat,
    BitVec.setWidth_eq]
  split_ifs <;> rfl

theorem daa8_of_sub (hn : f.n = true) : ((daa8 a f).1, (daa8 a f).2.c) = decimalAdjust a f := by
  rw [decimalAdjust_of_sub hn]
  simp only [daa8, hn, Bool.not_true, Bool.false_and, Bool.or_false, if_true]
  congr 1
  refine BitVec.eq_of_toNat_eq ?_
  rw [BitVec.toNat_ofInt, BitVec.toNat_sub]
  have ha := a.isLt
  cases f.c <;> cases f.h <;> simp [flagNat] <;> omega

end

/-- DAA is the algorithm of R184 carried out over the integers. -/
theorem daa8_eq (a : Byte) (f : Flags) : daa8 a f = ((decimalAdjust a f).1,
    { z := decide ((decimalAdjust a f).1 = 0), n := f.n, h := false, c := (decimalAdjust a f).2 }) := by
  suffices h : ((daa8 a f).1, (daa8 a f).2.c) = decimalAdjust a f by
    rw [← h]
    rfl
  cases hn : f.n
  · exact daa8_of_add hn
  · exact daa8_of_sub hn

theorem opDaa_eq (s : State) : opDaa s = .next { (s.setR8 .A (decimalAdjust s.regs.a s.flags).1).setFlags
    { z := decide ((decimalAdjust s.regs.a s.flags).1 = 0), n := s.flags.n, h := false,
      c := (decimalAdjust s.regs.a s.flags).2 } with cost := 4 } := by
  simp only [opDaa, daa8_eq, complete_ok]

/-- Settles O27: DAA by the algorithm over the integers; the other three are their one update. -/
theorem accumulatorOperations : Obligations.AccumulatorOperations := by
  refine ⟨fun p s => ⟨encode_instr p .daa, ?_⟩, fun p s => ⟨encode_instr p .cpl, encode_instr p .scf,
    encode_instr p .ccf, exec_instr .cpl s, exec_instr .scf s, exec_instr .ccf s⟩⟩
  exact (exec_instr .daa s).trans (opDaa_eq s)

/-! ## Decimal arithmetic -/

theorem toNat_decimalByte {x : Nat} (hx : x < 100) : (decimalByte x).toNat = x / 10 * 16 + x % 10 := by
  rw [decimalByte, BitVec.toNat_ofNat, Nat.mod_eq_of_lt (by omega)]

/-- Of two digit sums `t` and `l`, the carry in `l`, the byte passes 0x99 exactly when the number passes 99. -/
theorem tens_carry_iff {t l : Nat} (hl : l ≤ 19) :
    (16 * t + l ≥ 256 ∨ 0x99 < (16 * t + l) % 256) ↔ 100 ≤ 10 * t + l := by
  obtain h | h := Nat.lt_or_ge (16 * t + l) 256
  · rw [Nat.mod_eq_of_lt h]
    omega
  · omega

section
variable {x y : Nat} (hx : x < 100) (hy : y < 100) (cin : Bool)
include hx hy

/-- The adjusted sum of two decimal bytes is their decimal sum: a digit's sum is corrected exactly when it passes 9. -/
theorem decimalAdjust_sum : decimalAdjust (sumByte (decimalByte x) (decimalByte y) cin)
    (sumFlags (decimalByte x) (decimalByte y) cin) =
      (decimalByte ((x + y + flagNat cin) % 100), decide (100 ≤ x + y + flagNat cin)) := by
  have hc := flagNat_le_one cin
  obtain ⟨t, ht⟩ : ∃ t, t = x / 10 + y / 10 := ⟨_, rfl⟩
  obtain ⟨l, hl⟩ : ∃ l, l = x % 10 + y % 10 + flagNat cin := ⟨_, rfl⟩
  have hbyte : x / 10 * 16 + x % 10 + (y / 10 * 16 + y % 10) + flagNat cin = 16 * t + l := by omega
  have hsum : x + y + flagNat cin = 10 * t + l := by omega
  have hhigh := tens_carry_iff (t := t) (show l ≤ 19 by omega)
  have hlow : ((x / 10 * 16 + x % 10) % 16 + (y / 10 * 16 + y % 10) % 16 + flagNat cin ≥ 16 ∨
      9 < (16 * t + l) % 256 % 16) ↔ 10 ≤ l := by omega
  rw [decimalAdjust_of_add rfl]
  simp only [sumFlags, sumByte, toNat_decimalByte hx, toNat_decimalByte hy, BitVec.toNat_ofNat, decide_eq_true_iff, hbyte,
    hsum, Nat.reducePow, hhigh, hlow]
  congr 1
  refine BitVec.eq_of_toNat_eq ?_
  rw [toNat_decimalByte (Nat.mod_lt _ (by decide)), BitVec.toNat_ofNat]
  split_ifs <;> omega

/-- The adjusted difference of two decimal bytes is their decimal difference: the byte borrows when the number does, and its low
nibble when the low digit does. -/
theorem decimalAdjust_difference : decimalAdjust (differenceByte (decimalByte x) (decimalByte y) cin)
    (differenceFlags (decimalByte x) (decimalByte y) cin) =
      (decimalByte ((x + 200 - y - flagNat cin) % 100), decide (x < y + flagNat cin)) := by
  have hc := flagNat_le_one cin
  have hborrow : x / 10 * 16 + x % 10 < y / 10 * 16 + y % 10 + flagNat cin ↔ x < y + flagNat cin := by omega
  have hdigit : (x / 10 * 16 + x % 10) % 16 < (y / 10 * 16 + y % 10) % 16 + flagNat cin ↔
      x % 10 < y % 10 + flagNat cin := by omega
  rw [decimalAdjust_of_sub rfl]
  simp only [differenceFlags, differenceByte, toNat_decimalByte hx, toNat_decimalByte hy, BitVec.toNat_ofInt, hborrow, hdigit]
  congr 1
  refine BitVec.eq_of_toNat_eq ?_
  rw [toNat_decimalByte (Nat.mod_lt _ (by decide)), BitVec.toNat_ofInt]
  generalize flagNat cin = c at *
  simp only [flagNat, decide_eq_true_iff]
  split_ifs <;> omega

end

/-- An ALU operation on A and B, then DAA. -/
theorem exec_alu_daa {s : State} {o : AluOp} {r : Byte} {f : Flags} (h : alu8 o s.regs.a s.regs.b s.flags = (r, f)) :
    ∃ t u, exec (Form.instr (.alu o (.reg .B))) s = .next t ∧ exec .daa t = .next u ∧
      u.regs.a = (decimalAdjust r f).1 ∧ u.flags.c = (decimalAdjust r f).2 :=
  ⟨_, _, (exec_instr _ s).trans (opAlu_of_alu8 (x := .reg .B) ⟨rfl, rfl⟩ h),
    (exec_instr .daa _).trans (opDaa_eq _), rfl, rfl⟩

/-- Settles O28: the binary sum or difference, and then its adjustment. -/
theorem decimalArithmetic : Obligations.DecimalArithmetic := by
  intro s x y hx hy ha hb
  have hadc := exec_alu_daa (s := s) (o := .adc) (add8_eq _ _ _)
  have hsbc := exec_alu_daa (s := s) (o := .sbc) (sub8_eq _ _ _)
  rw [ha, hb, decimalAdjust_sum hx hy] at hadc
  rw [ha, hb, decimalAdjust_difference hx hy] at hsbc
  exact ⟨hadc, hsbc⟩

end Sys2Proof.Machine
end

section
/-! PROOFS. 16-bit arithmetic (42_alu16.md R210 to R214): the results that write flags, the sum of ADD HL and that of SP and an
offset, in the integers of their operands. -/

namespace Sys2Proof.Machine

/-! ## ADD HL (R210) -/

/-- ADD HL gives the sum mod 2^16 and the carries into bits 12 and 16. -/
theorem add16_eq (p : Config.Add16N) (a b : Word) (f : Flags) : add16 p a b f = (a + b,
    { z := f.z
      n := match p with
        | .unchanged => f.n
        | .cleared => false
      h := decide (a.toNat % 4096 + b.toNat % 4096 ≥ 4096)
      c := decide (a.toNat + b.toNat ≥ 65536) }) := by
  have hsum : (a.setWidth 32 + b.setWidth 32).setWidth 16 = a + b := by
    rw [BitVec.setWidth_add _ _ (by decide), BitVec.setWidth_setWidth_of_le _ (by decide),
      BitVec.setWidth_setWidth_of_le _ (by decide), BitVec.setWidth_eq, BitVec.setWidth_eq]
  have hcarry : ∀ i < 32, (a.setWidth 32 ^^^ b.setWidth 32 ^^^ (a.setWidth 32 + b.setWidth 32)).getLsbD i =
      decide (2 ^ i ≤ a.toNat % 2 ^ i + b.toNat % 2 ^ i) := fun i hi => by
    have h := getLsbD_xor_sum (a.setWidth 32) (b.setWidth 32) false hi
    rwa [show BitVec.ofNat 32 (flagNat false) = 0#32 from rfl, BitVec.add_zero, BitVec.toNat_setWidth_of_le (by decide),
      BitVec.toNat_setWidth_of_le (by decide)] at h
  have hh := hcarry 12 (by decide)
  have hc := hcarry 16 (by decide)
  rw [Nat.mod_eq_of_lt a.isLt, Nat.mod_eq_of_lt b.isLt] at hc
  cases p <;> simp only [add16, hsum, hh, hc] <;> rfl

theorem opAddHL_of_add16 {s : State} {rr : Reg16} {v : Word} {f : Flags}
    (h : add16 s.params.add16N s.hl (s.r16 rr) s.flags = (v, f)) :
    opAddHL rr s = .next { (s.setHL v).setFlags f with cost := 8 } := by
  simp only [opAddHL, h, complete_ok]

/-! ## SP and an offset (R211, R212) -/

theorem add_offset16 (sp : Word) (e : Int) : sp + offset16 e = BitVec.ofInt 16 (sp.toNat + e) := by
  rw [BitVec.ofInt_add, BitVec.ofInt_natCast, BitVec.ofNat_toNat, BitVec.setWidth_eq, offset16]

theorem toNat_lo (v : Word) : (lo v).toNat = v.toNat % 256 := by
  rw [lo, BitVec.extractLsb'_toNat, Nat.shiftRight_zero]

theorem toNat_offset8 (e : Int) : (offset8 e).toNat = (e % 256).toNat := BitVec.toNat_ofInt e

/-- The flags of SP and an offset: the carries of the unsigned sum of the low byte of SP and the offset's byte. -/
def offsetFlags (sp : Word) (e : Int) : Flags :=
  { z := false
    n := false
    h := decide (sp.toNat % 16 + (e % 16).toNat > 15)
    c := decide (sp.toNat % 256 + (e % 256).toNat > 255) }

theorem addOffset_eq (sp : Word) (e : Int) :
    addOffset sp e = (BitVec.ofInt 16 (sp.toNat + e), offsetFlags sp e) := by
  have hsp : sp.toNat % 256 % 16 = sp.toNat % 16 := Nat.mod_mod_of_dvd _ (by decide)
  have he : (e % 256).toNat % 16 = (e % 16).toNat := by omega
  simp only [addOffset, offsetFlags, add_offset16, toNat_low_nibble, toNat_lo, toNat_offset8, hsp, he]

/-! ## The instructions -/

/-- Settles O29: the sums are `add16_eq` and `addOffset_eq`; INC and DEC are one update of the pair. -/
theorem sixteenBitArithmetic : Obligations.SixteenBitArithmetic := by
  refine ⟨fun p rr s => ⟨encode_instr p (.addHL rr), ?_⟩, fun p rr s => ⟨encode_instr p (.incRr rr),
    encode_instr p (.decRr rr), exec_instr (.incRr rr) s, exec_instr (.decRr rr) s⟩, fun p e s _ _ =>
    ⟨encode_instr p (.addSPe e), encode_instr p (.ldHLSPe e), offsetFlags s.sp e, rfl, rfl, rfl, rfl, ?_, ?_⟩⟩
  · exact (exec_instr _ s).trans (opAddHL_of_add16 (add16_eq _ _ _ _))
  · simp only [exec_instr, Form.meaning, opAddSPe, addOffset_eq, complete_ok]
  · simp only [exec_instr, Form.meaning, opLdHLSPe, addOffset_eq, complete_ok]

end Sys2Proof.Machine
end

section
/-! PROOFS. Rotates, shifts and bits (43_cb_rotate_shift_bit.md R230 to R245): each operation bit by bit, and its use on A, on a
register and on the byte at HL. -/

namespace Sys2Proof

/-! ## The bits of a shifted byte -/

theorem bit_shiftLeft (v : Byte) (n i : Nat) : bit (v <<< n) i = (decide (i < 8) && !decide (i < n) && bit v (i - n)) :=
  BitVec.getLsbD_shiftLeft v n

theorem bit_shiftRight (v : Byte) (n i : Nat) : bit (v >>> n) i = bit v (n + i) := BitVec.getLsbD_ushiftRight v n i

/-- A single bit as a byte. -/
theorem bit_setWidth_ofBool (c : Bool) (i : Nat) : bit ((BitVec.ofBool c).setWidth 8) i = (decide (i = 0) && c) := by
  rcases Nat.lt_or_ge i 8 with hi | hi
  · decide +revert
  · rw [bit_eq_false hi, decide_eq_false (by omega), Bool.false_and]

/-- `w` is `v` moved one place up, with `c` at bit 0. -/
def MovedUp (v : Byte) (c : Bool) (w : Byte) : Prop := bit w 0 = c ∧ ∀ k < 7, bit w (k + 1) = bit v k

/-- `w` is `v` moved one place down, with `c` at bit 7. -/
def MovedDown (v : Byte) (c : Bool) (w : Byte) : Prop := bit w 7 = c ∧ ∀ k < 7, bit w k = bit v (k + 1)

theorem movedUp_shiftLeft (v : Byte) : MovedUp v false (v <<< 1) :=
  ⟨bit_shiftLeft v 1 0, fun k hk => by
    rw [bit_shiftLeft, decide_eq_true (by omega), decide_eq_false (by omega), Nat.add_sub_cancel]
    rfl⟩

theorem movedDown_shiftRight (v : Byte) : MovedDown v false (v >>> 1) :=
  ⟨(bit_shiftRight v 1 7).trans (bit_eq_false (by decide)), fun k _ => by rw [bit_shiftRight, Nat.add_comm]⟩

/-- A byte `m` without the bits 1 to 7 fills the place that a move up leaves free. -/
theorem MovedUp.or {v w m : Byte} {c : Bool} (h : MovedUp v false w) (h0 : bit m 0 = c)
    (hm : ∀ k < 7, bit m (k + 1) = false) : MovedUp v c (w ||| m) :=
  ⟨by rw [bit_or, h.1, h0, Bool.false_or], fun k hk => by rw [bit_or, h.2 k hk, hm k hk, Bool.or_false]⟩

/-- A byte `m` without the bits 0 to 6 fills the place that a move down leaves free. -/
theorem MovedDown.or {v w m : Byte} {c : Bool} (h : MovedDown v false w) (h7 : bit m 7 = c)
    (hm : ∀ k < 7, bit m k = false) : MovedDown v c (w ||| m) :=
  ⟨by rw [bit_or, h.1, h7, Bool.false_or], fun k hk => by rw [bit_or, h.2 k hk, hm k hk, Bool.or_false]⟩

theorem movedUp_shiftLeft_or (v : Byte) (c : Bool) : MovedUp v c (v <<< 1 ||| (BitVec.ofBool c).setWidth 8) :=
  (movedUp_shiftLeft v).or (bit_setWidth_ofBool c 0) fun k _ => bit_setWidth_ofBool c (k + 1)

theorem movedDown_shiftRight_or (v : Byte) (c : Bool) :
    MovedDown v c (v >>> 1 ||| (BitVec.ofBool c).setWidth 8 <<< 7) :=
  (movedDown_shiftRight v).or (by rw [bit_shiftLeft, bit_setWidth_ofBool]; rfl) fun k hk => by
    rw [bit_shiftLeft, decide_eq_true hk, Bool.not_true, Bool.and_false, Bool.false_and]

/-! ## Bit numbers -/

theorem BitNo.toNat_code (k : BitNo) : k.code.toNat = Machine.bitNumber k := by cases k <;> rfl

namespace Machine

theorem bitNumber_lt (k : BitNo) : bitNumber k < 8 := by
  rw [← k.toNat_code]
  exact k.code.isLt

/-! ## The eight rotates and shifts (R235 to R242) -/

section
variable (v : Byte) (c : Bool)

theorem movedUp_rlc : MovedUp v (bit v 7) (rotate .rlc v c).1 := movedUp_shiftLeft_or v (bit v 7)

theorem movedUp_rl : MovedUp v c (rotate .rl v c).1 := movedUp_shiftLeft_or v c

theorem movedUp_sla : MovedUp v false (rotate .sla v c).1 := movedUp_shiftLeft v

theorem movedDown_rrc : MovedDown v (bit v 0) (rotate .rrc v c).1 := movedDown_shiftRight_or v (bit v 0)

theorem movedDown_rr : MovedDown v c (rotate .rr v c).1 := movedDown_shiftRight_or v c

theorem movedDown_srl : MovedDown v false (rotate .srl v c).1 := movedDown_shiftRight v

/-- SRA keeps bit 7. -/
theorem movedDown_sra : MovedDown v (bit v 7) (rotate .sra v c).1 := by
  have hmask : ∀ k, bit 0x80 k = decide (k = 7) := bit_bitMask (i := 7) (by decide)
  refine (movedDown_shiftRight v).or ?_ fun k hk => ?_
  · rw [bit_and, hmask, decide_eq_true rfl, Bool.and_true]
  · rw [bit_and, hmask, decide_eq_false (by omega), Bool.and_false]

/-- SWAP exchanges the nibbles. -/
theorem bit_swap {k : Nat} (hk : k < 8) : bit (rotate .swap v c).1 k = bit v ((k + 4) % 8) := by
  rw [rotate, bit_or, bit_shiftLeft, bit_shiftRight, decide_eq_true hk]
  by_cases h4 : k < 4
  · rw [show (k + 4) % 8 = 4 + k by omega]
    simp [h4]
  · rw [show (k + 4) % 8 = k - 4 by omega, bit_eq_false (show 8 ≤ 4 + k by omega)]
    simp [h4]

end

/-! ## The operations -/

section
variable {s t : State} {v : Byte}

/-- A rotate of the byte at HL: one read, one write, then the flags. -/
theorem opRot_mHL (h : s.Reads s.hl v t) (o : RotOp) :
    opRot o .mHL s = complete 16 (memWrite s.hl (rotate o v s.flags.c).1 t >>= fun u =>
      .ok (u.setFlags (rotateFlags (rotate o v s.flags.c)))) := by
  refine (complete_read h _).trans ?_
  simp only [operandCost, writeOperand, h.hl, h.access.core.flags, pure_ok]

/-- BIT reads its operand and writes the flags alone. -/
theorem opBit_of_reads {x : Operand8} (h : s.OperandReads x v t) (k : BitNo) :
    opBit k x s = .next { t.setFlags (bitFlags v (bitNumber k) s.flags) with cost := operandCost x 8 12 } := by
  obtain ⟨hread, -, hflags⟩ := readOperand_of_reads h
  simp only [opBit, hread, ok_bind, hflags, pure_ok, complete_ok]

theorem opRes_mHL (h : s.Reads s.hl v t) (k : BitNo) :
    opRes k .mHL s = complete 16 (memWrite s.hl (clearBit v (bitNumber k)) t) := by
  rw [← h.hl]
  exact complete_read h _

theorem opSet_mHL (h : s.Reads s.hl v t) (k : BitNo) :
    opSet k .mHL s = complete 16 (memWrite s.hl (setBit v (bitNumber k)) t) := by
  rw [← h.hl]
  exact complete_read h _

end

/-- Settles O30: RLCA and RLA move A up, RRCA and RRA move it down; Z is cleared in all four. -/
theorem accumulatorRotates : Obligations.AccumulatorRotates :=
  ⟨fun _ => ⟨rfl, rfl, rfl, rfl⟩, fun s => ⟨⟨_, rfl, movedUp_rlc s.regs.a s.flags.c⟩,
    ⟨_, rfl, movedDown_rrc s.regs.a s.flags.c⟩, ⟨_, rfl, movedUp_rl s.regs.a s.flags.c⟩,
    ⟨_, rfl, movedDown_rr s.regs.a s.flags.c⟩⟩⟩

/-- Settles O31: a rotate on a register is one update, on the byte at HL one read and one write; then each rotate bit by
bit. -/
theorem prefixedRotates : Obligations.PrefixedRotates := by
  refine ⟨fun p o x => encode_instr p (.rot o x), fun s o r => exec_instr (.rot o (.reg r)) s, ?_, ?_, ?_,
    fun v c => ⟨?_, fun k hk => bit_swap v c hk, ?_⟩⟩
  · intro s t o v h hw
    obtain ⟨u, hu⟩ := memWrite_of_writable (h.writable hw)
    refine ⟨u, hu, (exec_instr (.rot o .mHL) s).trans ?_⟩
    rw [Form.meaning, opRot_mHL h, hu, ok_bind, complete_ok, rotateFlags]
  · intro s t o v f h he
    refine (exec_instr (.rot o .mHL) s).trans ?_
    rw [Form.meaning, opRot_mHL h, he, error_bind, complete_error]
  · exact fun s o off h => (exec_instr (.rot o .mHL) s).trans (complete_read_outOfRange h _)
  · exact fun k hk => ⟨(movedUp_rlc v c).2 k hk, (movedUp_rl v c).2 k hk, (movedUp_sla v c).2 k hk,
      (movedDown_rrc v c).2 k hk, (movedDown_rr v c).2 k hk, (movedDown_sra v c).2 k hk, (movedDown_srl v c).2 k hk⟩
  · exact ⟨(movedUp_rlc v c).1, (movedUp_rl v c).1, (movedUp_sla v c).1, (movedDown_rrc v c).1, (movedDown_rr v c).1,
      (movedDown_sra v c).1, (movedDown_srl v c).1, rfl, rfl, rfl, rfl, rfl, rfl, rfl, rfl⟩

/-- Settles O32: BIT reads its operand and writes the flags; RES and SET update a register, or read and write the byte at
HL. -/
theorem bitOperations : Obligations.BitOperations := by
  refine ⟨fun p k x => ⟨encode_instr p (.bit k x), k.toNat_code⟩, ?_,
    fun p k x => ⟨encode_instr p (.res k x), encode_instr p (.set k x), k.toNat_code⟩,
    fun v k j _ => ⟨bit_clearBit v (bitNumber_lt k) j, bit_setBit v (bitNumber_lt k) j⟩, ?_, ?_, ?_, ?_, ?_⟩ <;>
    simp only [exec_instr, Form.meaning]
  · exact fun s t k x v h => opBit_of_reads h k
  · exact fun s k r => ⟨rfl, rfl⟩
  · intro s t k v h hw
    rw [opRes_mHL h]
    exact complete_write (h.writable hw) 16
  · intro s t k v h hw
    rw [opSet_mHL h]
    exact complete_write (h.writable hw) 16
  · intro s t k v f h
    rw [opRes_mHL h, opSet_mHL h]
    exact ⟨complete_of_error, complete_of_error⟩
  · exact fun s k off h => ⟨complete_read_outOfRange h _, complete_read_outOfRange h _, complete_read_outOfRange h _⟩

end Machine
end Sys2Proof
end

section
/-! PROOFS. Control transfer (44_control.md R270 to R282): the jumps, the calls as one push and a jump, the returns as one pop
into PC, and a conditional one as one of two operations. -/

namespace Sys2Proof.Machine

/-! ## Jumps (R275, R281) -/

/-- The target of JR in the integers of its operands. -/
theorem opJr_eq (e : Int) (s : State) :
    opJr e s = .next { s with pc := BitVec.ofInt 16 (s.pc.toNat + e), cost := 12 } := by
  rw [opJr, add_offset16, complete_ok]

/-- The target of RST t is eight times its field. -/
theorem toNat_rstAddress (r : RstVector) : (rstAddress r).toNat = r.code.toNat * 8 := by cases r <;> rfl

/-! ## Calls (R277, R281) -/

theorem opPushJump_of_push {s t : State} (h : push16 s.pc s = .ok t) (cost : Nat) (w : Word) :
    opPushJump cost w s = .next { t with pc := w, cost := cost } := by
  rw [opPushJump, h, ok_bind, pure_ok, complete_ok]

theorem opPushJump_of_error {s : State} {f : Fault} (h : push16 s.pc s = .error f) (cost : Nat) (w : Word) :
    opPushJump cost w s = .fault f := by
  rw [opPushJump, h, error_bind, complete_error]

/-! ## Returns (R279, R280) -/

theorem returnFromCall_of_reads {s t : State} {w : Word} (h : s.ReadsWord s.sp w t) :
    returnFromCall s = .ok { t with sp := s.sp + 2, pc := w } := by
  simp only [returnFromCall, pop16_of_reads h, ok_bind, pure_ok]

theorem returnFromCall_of_error {s : State} {f : Fault} (h : pop16 s = .error f) : returnFromCall s = .error f := by
  rw [returnFromCall, h, error_bind]

theorem opReti_of_return {s t : State} (h : returnFromCall s = .ok t) :
    opReti s = .next { t with ime := true, cost := 16 } := by
  rw [opReti, returnFromInterrupt, h, ok_bind, pure_ok, complete_ok]

theorem opReti_of_error {s : State} {f : Fault} (h : returnFromCall s = .error f) : opReti s = .fault f := by
  rw [opReti, returnFromInterrupt, h, error_bind, complete_error]

/-! ## Conditional calls and returns (R278, R282) -/

section
variable {s : State} {c : Cond}

theorem opCallCC_taken (h : condHolds c s.flags = true) (w : Word) : opCallCC c w s = opCall w s := if_pos h

theorem opRetCC_taken (h : condHolds c s.flags = true) : opRetCC c s = complete 20 (returnFromCall s) := if_pos h

end

/-! ## The instructions -/

/-- Settles O34: a call is one push of PC and a jump; where the push faults, the fault is all. -/
theorem calls : Obligations.Calls := by
  refine ⟨fun p c w r => ⟨encode_instr p (.call w), encode_instr p (.callCC c w), encode_instr p (.rst r),
    toNat_rstAddress r⟩, ?_, ?_, ?_⟩ <;> simp only [exec_instr]
  · intro s c w r hw
    obtain ⟨-, t, -, -, hpush⟩ := push16_of_writable hw
    have hjump := opPushJump_of_push hpush
    exact ⟨t, hpush, hjump 24 w, hjump 16 (rstAddress r), fun hc => (opCallCC_taken hc w).trans (hjump 24 w)⟩
  · exact fun s c w hc => if_neg (ne_true_of_eq_false hc)
  · intro s c w r f h
    have hfault := opPushJump_of_error h
    exact ⟨hfault 24 w, hfault 16 (rstAddress r), fun hc => (opCallCC_taken hc w).trans (hfault 24 w),
      push16_error_pc h⟩

/-- Settles O35: a return is one pop into PC, and RETI sets IME after it; where the pop faults, the fault is all. -/
theorem returns : Obligations.Returns := by
  refine ⟨fun p c => ⟨encode_instr p .ret, encode_instr p .reti, encode_instr p (.retCC c)⟩, ?_, ?_, ?_⟩ <;>
    simp only [exec_instr]
  · intro s t w c h
    have hret := returnFromCall_of_reads h
    exact ⟨congrArg (complete 16) hret, opReti_of_return hret,
      fun hc => (opRetCC_taken hc).trans (congrArg (complete 20) hret)⟩
  · exact fun s c hc => if_neg (ne_true_of_eq_false hc)
  · intro s c f h
    have hret := returnFromCall_of_error h
    exact ⟨complete_of_error hret, opReti_of_error hret, fun hc => (opRetCC_taken hc).trans (complete_of_error hret)⟩

/-- Settles O33: each jump is one update of PC; a conditional one does it where its condition holds, and else only costs. -/
theorem jumps : Obligations.Jumps := by
  intro p s c w e
  refine ⟨encode_instr p (.jp w), encode_instr p (.jpCC c w), encode_instr p .jpHL, encode_instr p (.jr e),
    encode_instr p (.jrCC c e), ?_, ?_, ?_, fun hc => ⟨?_, ?_⟩, fun hc => ⟨?_, ?_⟩⟩ <;> rw [exec_instr]
  · exact complete_ok 16 _
  · exact complete_ok 4 _
  · exact opJr_eq e s
  · exact (if_pos hc).trans (complete_ok 16 _)
  · exact (if_pos hc).trans (opJr_eq e s)
  · exact if_neg (ne_true_of_eq_false hc)
  · exact if_neg (ne_true_of_eq_false hc)

end Sys2Proof.Machine
end

section
/-! PROOFS. System instructions and the illegal opcodes (45_system.md R300 to R306): the operations that depend on P_EI_DELAY,
one equation per value, and a step that executes from its fetch to its fault. -/

namespace Sys2Proof.Machine

/-! ## A step that executes (R320, R321, R324) -/

section
variable {s t : State}

/-- Where no interrupt is due and the core is not halted, the processor's part is the execute path. -/
theorem processorPart_eq_execute (hhalted : s.halted = false)
    (hdue : s.ime = true → s.load Port.IF &&& s.load Port.IE = 0) : processorPart s = execute s := by
  have hservice : (s.ime && decide (s.load Port.IF &&& s.load Port.IE ≠ 0)) = false := by
    cases hime : s.ime with
    | false => rfl
    | true => simp [hdue hime]
  simp only [processorPart, hservice, hhalted, Bool.false_eq_true, if_false]

/-- A fault of the processor's part is the step's. -/
theorem step_of_processorPart_fault {f : Fault} (hs : s.fault = none) (h : processorPart s = .fault f) :
    step s = .fault f := by
  simp only [step, machineStep, hs, h]

/-- A fault of the instruction is the execute path's. -/
theorem execute_of_exec_fault {i : Instr} {f : Fault} (hfetch : fetchInstr s = .ok (i, t)) (h : exec i t = .fault f) :
    execute s = .fault f := by
  simp only [execute, hfetch, h]

/-- An instruction without operand bytes is fetched by the read of its opcode. -/
theorem fetchInstr_of_reads {op : Byte} (h : s.Reads s.pc op t)
    (hnone : (decodeForm op 0 0).operandBytes t.params.stopLen = 0) :
    fetchInstr s = .ok (decodeBytes op 0 0, { t with pc := t.pc + 1 }) := by
  simp only [fetchInstr, fetch8_of_reads h, ok_bind, fetchOperands, hnone, pure_ok]

end

/-! ## The illegal opcodes (R306) -/

/-- An illegal opcode raises its fault, with the opcode and the address before PC recorded. -/
theorem exec_illegal (op : IllegalOp) (s : State) : exec (Form.instr (.illegal op)) s =
    .fault (.illegalOpcode op.byte (s.pc - 1) { s with fault := some (.illegalOpcode op.byte (s.pc - 1)), cost := 0 }) :=
  exec_instr (.illegal op) s

/-- The read of an illegal opcode at PC fetches its instruction. -/
theorem fetchInstr_of_reads_illegal {s t : State} {op : IllegalOp} (h : s.Reads s.pc op.byte t) :
    fetchInstr s = .ok (Form.instr (.illegal op), { t with pc := s.pc + 1 }) := by
  have hform : decodeForm op.byte 0 0 = .illegal op := decodeForm_eq_illegal_iff.2 rfl
  rw [fetchInstr_of_reads h (by rw [hform]; rfl), decodeBytes, hform, h.access.core.pc]

/-- Settles O37: the fetch of the opcode, and then the fault that executing it raises. -/
theorem illegalOpcodesFault : Obligations.IllegalOpcodesFault := by
  refine fun p op s => ⟨encode_instr p (.illegal op), exists_illegalOp_byte_iff.1 ⟨op, rfl⟩, exec_illegal op s,
    fun t hs hhalted hdue hread => ?_⟩
  have hexecute := execute_of_exec_fault (fetchInstr_of_reads_illegal hread) (exec_illegal op _)
  rw [step_of_processorPart_fault hs ((processorPart_eq_execute hhalted hdue).trans hexecute)]
  simp only [add_sub_cancel_right]

/-! ## DI and EI (R303, R304) -/

section
variable {s : State}

theorem opDi_of_no_delay (h : s.params.eiDelay = .none) : opDi s = .next { s with ime := false, cost := 4 } := by
  simp only [opDi, h, complete_ok]

theorem opDi_of_delay (h : s.params.eiDelay = .one) :
    opDi s = .next { s with ime := false, eiPending := false, cost := 4 } := by
  simp only [opDi, h, complete_ok]

theorem opEi_of_no_delay (h : s.params.eiDelay = .none) : opEi s = .next { s with ime := true, cost := 4 } := by
  simp only [opEi, h, complete_ok]

/-- With a delay, EI is held pending while IME is clear. -/
theorem opEi_of_delay (h : s.params.eiDelay = .one) (hime : s.ime = false) :
    opEi s = .next { s with eiPending := true, cost := 4 } := by
  simp only [opEi, h, hime, Bool.false_eq_true, if_false, complete_ok]

/-- With a delay, EI with IME set has no effect (log entry 16). -/
theorem opEi_of_delay_enabled (h : s.params.eiDelay = .one) (hime : s.ime = true) : opEi s = .next { s with cost := 4 } := by
  simp only [opEi, h, hime, if_true, complete_ok]

end

/-- Settles O36: NOP, HALT and STOP are one update each; DI and EI by the value of P_EI_DELAY. -/
theorem systemInstructions : Obligations.SystemInstructions := by
  refine ⟨fun p => ⟨encode_instr p .nop, encode_instr p .halt, encode_instr p .di, encode_instr p .ei⟩,
    encode_instr .one .stop, encode_instr .two .stop, fun s => ?_⟩
  simp only [exec_instr]
  exact ⟨complete_ok 4 _, complete_ok 4 _, complete_ok 4 _, fun h => ⟨opDi_of_no_delay h, opEi_of_no_delay h⟩,
    fun h => ⟨opDi_of_delay h, opEi_of_delay h, opEi_of_delay_enabled h⟩⟩

end Sys2Proof.Machine
end

section
/-! PROOFS. The display controller's advance as a whole (60_exceptions.md R350 to R362): the mode automaton as a function of the
mode, the in-mode counter and LY, and what an advance makes of each field in its terms. -/

namespace Sys2Proof.Machine

/-! ## The fields of the state a transition starts from -/

theorem retract_display (s : State) : (retract s).display = { s.display with
    setVblank := keptRequest s s.display.setVblank
    setStat := keptRequest s s.display.setStat } := by rw [retract_same]

@[simp] theorem retract_frame (s : State) : (retract s).frame = s.frame := by rw [retract_same]

theorem beforeTransition_display (c : Nat) (s : State) : (beforeTransition c s).display =
    { mode := if s.display.enabled then s.display.mode else .spriteSearch
      modeClock := (if s.display.enabled then s.display.modeClock else 0) + c
      enabled := true
      frameComplete := s.display.frameComplete
      setVblank := keptRequest s s.display.setVblank
      setStat := keptRequest s s.display.setStat } := by rw [beforeTransition_same]

@[simp] theorem beforeTransition_params (c : Nat) (s : State) : (beforeTransition c s).params = s.params := by
  rw [beforeTransition_same]

@[simp] theorem beforeTransition_frame (c : Nat) (s : State) : (beforeTransition c s).frame = s.frame := by
  rw [beforeTransition_same]

/-- Only IF can differ from the storage before the advance. -/
theorem beforeTransition_load_ne (c : Nat) (s : State) {k : Nat} (hk : k ≠ Port.IF) :
    (beforeTransition c s).load k = s.load k := by rw [beforeTransition_load, retract_load _ hk]

/-! ## The mode automaton (R354 to R358) -/

/-- Where the mode automaton arrives: the mode, the in-mode counter and LY, whether it has entered V-blank, and for a mode whose
entry may request the status interrupt the bit of STAT that enables it. -/
structure Move where
  mode    : Mode
  clock   : Nat
  ly      : Byte
  vblank  : Bool
  statBit : Option Nat

/-- The move from a mode whose in-mode counter has taken the cycles of the advance (R354 to R358). -/
def Mode.move (m : Mode) (clock : Nat) (ly : Byte) : Move :=
  match m with
  | .spriteSearch => if 79 ≤ clock then ⟨.pixelTransfer, clock - 79, ly, false, none⟩ else ⟨m, clock, ly, false, none⟩
  | .pixelTransfer => if 172 ≤ clock then ⟨.hBlank, clock - 172, ly, false, some 3⟩ else ⟨m, clock, ly, false, none⟩
  | .hBlank =>
    if 205 ≤ clock then
      if ly + 1 = 144 then ⟨.vBlank, clock - 205, ly + 1, true, some 4⟩
      else ⟨.spriteSearch, clock - 205, ly + 1, false, some 5⟩
    else ⟨m, clock, ly, false, none⟩
  | .vBlank =>
    if 4560 ≤ clock then ⟨.spriteSearch, clock - 4560, 0, false, some 5⟩
    else ⟨m, clock, vBlankLine clock, false, none⟩

/-- Whether the move requests the status interrupt. -/
def Move.statRequest (v : Move) (stat : Byte) : Bool := v.statBit.elim false (bit stat)

/-- A transition is the move of the automaton. -/
theorem transits_move (u : State) {v : Move} (hv : u.display.mode.move u.display.modeClock (u.load Port.LY) = v) :
    Transits u (transition u) v.mode v.clock v.ly (u.display.frameComplete || v.vblank) v.vblank
      (v.statRequest (u.load Port.STAT)) := by
  subst hv
  have hstay := Transits.refl u
  unfold transition
  cases hm : u.display.mode <;> rw [hm] at hstay <;> simp only [Mode.move]
  case spriteSearch =>
    split
    · simpa [Move.statRequest] using transits_leaveSearch u
    · simpa [Move.statRequest] using hstay
  case pixelTransfer =>
    split
    · simpa [Move.statRequest] using (transits_leavePixelTransfer u).1
    · simpa [Move.statRequest] using hstay
  case hBlank =>
    split
    · split
      · next hly => rw [hly]; simpa [Move.statRequest, Mode.threshold] using transits_leaveHBlank_vBlank hly
      · next hly => simpa [Move.statRequest, Mode.threshold] using transits_leaveHBlank_search hly
    · simpa [Move.statRequest] using hstay
  case vBlank =>
    split
    · simpa [Move.statRequest, Mode.threshold] using transits_leaveVBlank u
    · simpa [Move.statRequest, hm] using transits_vBlankLine u

/-! ## The advance of an enabled display (R350) -/

/-- The move of an advance: from Sprite-Search with a zero counter where the display was disabled (R353). -/
def displayMove (cycles : Nat) (s : State) : Move :=
  Mode.move (if s.display.enabled then s.display.mode else .spriteSearch)
    ((if s.display.enabled then s.display.modeClock else 0) + cycles) (s.load Port.LY)

/-- Whether an advance that ends with this LY requests the status interrupt by LY = LYC (R360). -/
def lycRequest (s : State) (ly : Byte) : Bool :=
  decide (ly = s.load Port.LYC) && (!s.params.lycGated || bit (s.load Port.STAT) 6)

/-- Everything the advance of an enabled display leaves, in terms of its move. -/
structure AdvancesBy (s : State) (v : Move) (t : State) : Prop where
  display  : t.display = { mode := v.mode
                           modeClock := v.clock
                           enabled := true
                           frameComplete := s.display.frameComplete || v.vblank
                           setVblank := keptRequest s s.display.setVblank || v.vblank
                           setStat := keptRequest s s.display.setStat || v.statRequest (s.load Port.STAT) ||
                             lycRequest s v.ly }
  ly       : t.load Port.LY = v.ly
  stat     : t.load Port.STAT = putBit ((s.load Port.STAT &&& 0xFC) ||| v.mode.code) 2 (decide (v.ly = s.load Port.LYC))
  requests : t.load Port.IF = ((retract s).load Port.IF ||| if v.vblank then 1 else 0) |||
               if v.statRequest (s.load Port.STAT) || lycRequest s v.ly then 2 else 0
  vramGate : t.vramGate = v.mode.vramOpen
  oamGate  : t.oamGate = v.mode.oamOpen

theorem displayAdvance_move (c : Nat) {s : State} (h : bit (s.load Port.LCDC) 7 = true) :
    AdvancesBy s (displayMove c s) (displayAdvance c s) := by
  have hload : ∀ {k}, k ≠ Port.IF → (beforeTransition c s).load k = s.load k := beforeTransition_load_ne c s
  have hmove : (beforeTransition c s).display.mode.move (beforeTransition c s).display.modeClock
      ((beforeTransition c s).load Port.LY) = displayMove c s := by
    rw [hload (by decide), beforeTransition_display]
    rfl
  have ht := transits_move _ hmove
  generalize displayMove c s = v at ht
  have hd : (transition (beforeTransition c s)).display = _ := congrArg State.display ht.same
  have hp : (transition (beforeTransition c s)).params = s.params := by
    rw [ht.same, beforeTransition_params]
  have hstat : (transition (beforeTransition c s)).load Port.STAT = s.load Port.STAT := by
    rw [ht.rest _ (by decide) (by decide), hload (by decide)]
  have hlyc : (transition (beforeTransition c s)).load Port.LYC = s.load Port.LYC := by
    rw [ht.rest _ (by decide) (by decide), hload (by decide)]
  obtain ⟨hsame, hbytes⟩ := afterTransition_spec _ _ (lycRequest s v.ly)
    (by rw [ht.ly, hlyc, hp, hstat]; rfl) (displayAdvance_enabled (c := c) h)
  refine ⟨?_, ?_, ?_, ?_, ?_, ?_⟩
  · rw [congrArg State.display hsame, hd, hload (by decide), beforeTransition_display]
  · rw [hbytes, if_neg (by decide), if_neg (by decide), ht.ly]
  · rw [hbytes, if_pos rfl, hstat, hlyc, ht.ly, hd]
  · rw [hbytes, if_neg (by decide), if_pos rfl, ht.reqs, beforeTransition_load, hload (by decide)]
    cases v.statRequest (s.load Port.STAT) <;> cases lycRequest s v.ly <;> simp [BitVec.or_assoc]
  · rw [congrArg State.vramGate hsame, hd]
  · rw [congrArg State.oamGate hsame, hd]

end Sys2Proof.Machine
end

section
/-! PROOFS. The statements about the display controller's advance (60_exceptions.md R350 to R362), read off the move of the
automaton, and the line it renders (R356, R380, R398). -/

namespace Sys2Proof.Machine

/-! ## A disabled display (R352) -/

/-- Settles O52: the disabled display's updates after the retraction. -/
theorem disabledDisplay : Obligations.DisabledDisplay := by
  intro s cycles h
  have hload : ∀ k, (displayDisabled (retract s)).load k = _ := displayDisabled_load (retract s)
  have hdisplay : (retract s).display = _ := retract_display s
  have hkept : ∀ flag, s.params.ifRetract = .tracked → keptRequest s flag = false := fun _ hp => by
    simp only [keptRequest, hp]
  have hif : (displayDisabled (retract s)).load Port.IF = (retract s).load Port.IF := by
    rw [hload, if_neg (by decide), if_neg (by decide)]
  rw [displayAdvance_disabled h, hif]
  refine ⟨rfl, rfl, rfl, ?_, ?_, ?_, rfl, rfl, ?_, fun k hk => ?_, fun hp => ⟨?_, ?_⟩,
    fun hp k hk => retract_if_tracked hp hk, retract_if_always⟩
  · exact (congrArg (·.frameComplete) hdisplay :)
  · rw [hload, if_neg (by decide), if_pos rfl]
  · rw [hload, if_pos rfl, retract_load _ (by decide)]
  · rw [← displayAdvance_disabled (c := cycles) h]
    refine (displayAdvance_same cycles s).1.trans ?_
    congr 1
    rw [displayAdvance_disabled h]
    exact retract_frame s
  · simp only [List.mem_cons, List.not_mem_nil, or_false, not_or] at hk
    obtain ⟨hly, hstat, hreq⟩ := hk
    rw [hload, if_neg hstat, if_neg hly, retract_load _ hreq]
  · exact (congrArg Display.setVblank hdisplay).trans (hkept _ hp)
  · exact (congrArg Display.setStat hdisplay).trans (hkept _ hp)

/-! ## The modes (R353 to R358) -/

theorem toNat_vBlankLine (clock : Nat) : (vBlankLine clock).toNat = 144 + min 9 (clock / 456) := by
  simp only [vBlankLine, BitVec.toNat_ofNat]
  omega

/-- Settles O53: the display and LY are where the move of the automaton arrives. -/
theorem displayModes : Obligations.DisplayModes := by
  intro s cycles clock m h hm hclock
  have ht := displayAdvance_move cycles h
  have hv : displayMove cycles s = m.move clock (s.load Port.LY) := by rw [hm, hclock]; rfl
  rw [ht.display, ht.ly, hv]
  refine ⟨rfl, ?_⟩
  cases m <;> simp only [Mode.move]
  case spriteSearch => split <;> simp <;> omega
  case pixelTransfer => split <;> simp <;> omega
  case hBlank =>
    split
    · split <;> simp <;> omega
    · simp; omega
  case vBlank => split <;> simp [toNat_vBlankLine] <;> omega

/-! ## The status, the gates and the requests (R351, R357 to R362) -/

/-- What a move requests, by the mode it leaves and the mode it enters. -/
theorem displayMove_requests (c : Nat) (s : State) :
    (displayMove c s).vblank =
      decide (s.display.enabled = true ∧ s.display.mode = .hBlank ∧ (displayMove c s).mode = .vBlank) ∧
    ∀ stat, (displayMove c s).statRequest stat =
      ((decide (s.display.enabled = true ∧ s.display.mode = .hBlank ∧ (displayMove c s).mode = .vBlank) && bit stat 4) ||
        (decide (s.display.enabled = true ∧ s.display.mode = .pixelTransfer ∧ (displayMove c s).mode = .hBlank) &&
          bit stat 3) ||
        (decide (s.display.enabled = true ∧ (s.display.mode = .hBlank ∨ s.display.mode = .vBlank) ∧
          (displayMove c s).mode = .spriteSearch) && bit stat 5)) := by
  unfold displayMove
  cases s.display.enabled
  case false =>
    simp only [Bool.false_eq_true, if_false, Mode.move]
    split <;> simp [Move.statRequest]
  case true =>
    cases s.display.mode <;> simp only [if_true, Mode.move] <;> split_ifs <;> simp [Move.statRequest]

/-- Settles O54: STAT, the gates and the flag as the move leaves them, and the frame of every advance. -/
theorem displayStatus : Obligations.DisplayStatus := by
  rintro s _ cycles h rfl
  have ht := displayAdvance_move cycles h
  obtain ⟨hsame, hrest⟩ := displayAdvance_same cycles s
  obtain ⟨hvblank, -⟩ := displayMove_requests cycles s
  rw [ht.display, ht.stat, ht.ly, ht.vramGate, ht.oamGate, hrest Port.LYC (by decide) (by decide) (by decide)]
  generalize displayMove cycles s = v at *
  obtain ⟨hcode, hmatch, hhigh⟩ := statByte_bits v.mode (decide (v.ly = s.load Port.LYC)) (s.load Port.STAT)
  refine ⟨hcode.trans ?_, hmatch, hhigh, ?_, ?_, ?_, ?_, fun k hk => ?_⟩
  · cases v.mode <;> rfl
  · cases v.mode <;> simp [Mode.oamOpen]
  · cases v.mode <;> simp [Mode.vramOpen]
  · simp only [hvblank, Bool.or_eq_true, decide_eq_true_eq]
  · rw [← ht.display, ← ht.vramGate, ← ht.oamGate]
    exact hsame
  · simp only [List.mem_cons, List.not_mem_nil, or_false, not_or] at hk
    obtain ⟨hly, hstat, hreq⟩ := hk
    exact hrest k hly hstat hreq

/-- The retraction withdraws the two display requests at most. -/
theorem bit_retract_of_two_le (s : State) {k : Nat} (hk : 2 ≤ k) :
    bit ((retract s).load Port.IF) k = bit (s.load Port.IF) k := by
  by_cases h8 : k < 8
  · cases hp : s.params.ifRetract with
    | tracked => rw [retract_if_tracked hp h8]; simp [show k ≠ 0 by omega, show k ≠ 1 by omega]
    | always => rw [retract_if_always hp]; exact bit_high_and (j := 2) (by decide) hk
  · rw [bit_eq_false (by omega), bit_eq_false (by omega)]

/-- Under "always" it withdraws both, whoever set them. -/
theorem bit_retract_always {s : State} (hp : s.params.ifRetract = .always) {k : Nat} (hk : k < 2) :
    bit ((retract s).load Port.IF) k = false := by
  have hmask : ∀ k < 2, bit 0xFC k = false := by decide
  rw [retract_if_always hp, bit_and, hmask k hk, Bool.and_false]

/-- The bits of IF with the display's two requests added. -/
theorem bit_or_requests (x : Byte) (vblank stat : Bool) (k : Nat) :
    bit ((x ||| if vblank then 1 else 0) ||| if stat then 2 else 0) k =
      (bit x k || (vblank && decide (k = 0)) || (stat && decide (k = 1))) := by
  have h0 : bit 0 k = false := BitVec.getLsbD_zero
  have h1 : bit 1 k = decide (k = 0) := bit_mask0 k
  have h2 : bit 2 k = decide (k = 1) := bit_mask1 k
  rw [bit_or, bit_or]
  cases vblank <;> cases stat <;>
    simp only [h0, h1, h2, Bool.false_eq_true, if_true, if_false, Bool.true_and, Bool.false_and, Bool.or_false]

/-- Settles O55: what the retraction leaves of IF and of the two request flags, and what the move and the LY comparison
request. -/
theorem displayRequests : Obligations.DisplayRequests := by
  rintro s _ cycles h rfl entersVblank entersHblank entersSearch lineMatch statRequest hev heh hes hlm hsr
  have ht := displayAdvance_move cycles h
  obtain ⟨-, hrest⟩ := displayAdvance_same cycles s
  obtain ⟨hvblank, hstat⟩ := displayMove_requests cycles s
  have hmode := congrArg Display.mode ht.display
  rw [hmode] at hev heh hes
  rw [ht.ly, hrest Port.LYC (by decide) (by decide) (by decide)] at hlm
  rw [← hev] at hvblank
  have hrequest : ((displayMove cycles s).statRequest (s.load Port.STAT) || lycRequest s (displayMove cycles s).ly) =
      statRequest := by rw [hsr, hlm, heh, hes, hev, hstat]; rfl
  rw [ht.display, ht.requests, hvblank, hrequest, Bool.or_assoc, hrequest]
  simp only [bit_or_requests]
  refine ⟨fun k hk => ?_, fun hp => ?_, fun hp => ?_⟩
  · rw [bit_retract_of_two_le s hk]
    simp [show k ≠ 0 by omega, show k ≠ 1 by omega]
  · simp [retract_if_tracked hp, keptRequest, hp, Bool.or_comm]
  · simp [bit_retract_always hp, keptRequest, hp, Bool.or_comm]

/-! ## The rendered line (R356, R380, R398) -/

@[simp] theorem setMode_frame (u : State) (m : Mode) : (u.setMode m).frame = u.frame := rfl

@[simp] theorem takeThreshold_frame (u : State) (m : Mode) : (u.takeThreshold m).frame = u.frame := rfl

@[simp] theorem requestVblank_frame (u : State) : (requestVblank u).frame = u.frame := rfl

@[simp] theorem requestStatIf_frame (b : Nat) (u : State) : (requestStatIf b u).frame = u.frame := by
  unfold requestStatIf
  split <;> rfl

@[simp] theorem leaveHBlank_frame (u : State) : (leaveHBlank u).frame = u.frame := by
  simp only [leaveHBlank, apply_ite State.frame, requestStatIf_frame, requestVblank_frame, setMode_frame, State.store_frame,
    takeThreshold_frame, ite_self]

theorem enter_frame (u : State) (m m' : Mode) (ly : Byte) (b : Nat) :
    (requestStatIf b (((u.takeThreshold m).store Port.LY ly).setMode m')).frame = u.frame := requestStatIf_frame b _

@[simp] theorem leaveVBlank_frame (u : State) : (leaveVBlank u).frame = u.frame := enter_frame u .vBlank .spriteSearch 0 5

/-- Only the exit from Pixel-Transfer renders. -/
theorem transition_frame_of_not_exit {u : State} (h : ¬ (u.display.mode = .pixelTransfer ∧ 172 ≤ u.display.modeClock)) :
    (transition u).frame = u.frame := by
  unfold transition
  cases hm : u.display.mode <;> dsimp only
  case pixelTransfer => rw [if_neg fun hc => h ⟨hm, hc⟩]
  all_goals split <;> simp

/-- Every pixel of a frame after a line is rendered. -/
theorem renderLine_pixel (ly : Nat) (s : State) (y : Fin 144) (x : Fin 160) :
    (renderLine ly s).frame[y][x] = if y.val = ly then columnGrey s y.val x.val else s.frame[y][x] := by
  unfold renderLine
  split
  · by_cases hy : y.val = ly
    · subst hy
      simp [renderedLine]
    · simp [hy, Ne.symm hy]
  · rw [if_neg (by omega)]

/-- What comes after the transition leaves the frame. -/
theorem displayAdvance_frame (c : Nat) {s : State} (h : bit (s.load Port.LCDC) 7 = true) :
    (displayAdvance c s).frame = (transition (beforeTransition c s)).frame := by
  rw [(afterTransition_spec _ _ _ rfl (displayAdvance_enabled h)).1]

/-- The state that the exit from Pixel-Transfer renders shows the renderer what the state before the advance does. -/
theorem rendersAlike_beforeTransition (c : Nat) (s : State) (m : Mode) :
    RendersAlike s ((beforeTransition c s).takeThreshold m) where
  load _ hk := beforeTransition_load_ne c s hk
  params := beforeTransition_params c s

/-- Settles O56: the frame is that of the transition, which renders at the exit from Pixel-Transfer. -/
theorem lineRendering : Obligations.LineRendering := by
  intro s cycles h
  have hdisplay := beforeTransition_display cycles s
  rw [displayAdvance_frame cycles h]
  refine ⟨fun hen hm hc y x => ?_, fun hexit => ?_⟩
  · have hleave : transition (beforeTransition cycles s) = leavePixelTransfer (beforeTransition cycles s) := by
      simp only [transition, hdisplay, hen, hm, if_true, hc]
    have hly : (beforeTransition cycles s).load Port.LY = s.load Port.LY := beforeTransition_load_ne cycles s (by decide)
    simp only [hleave, (transits_leavePixelTransfer _).2, renderLine_pixel, hly, takeThreshold_frame, beforeTransition_frame,
      (rendersAlike_beforeTransition cycles s _).columnGrey y.isLt x.isLt]
  · rw [transition_frame_of_not_exit, beforeTransition_frame]
    rw [hdisplay]
    cases hen : s.display.enabled <;> simp [hen] at hexit ⊢
    exact hexit

end Sys2Proof.Machine
end

section
/-! PROOFS. The invariant of a running machine, kept by every completed step (Safety.lean, `State.Inv`): what a step costs, a
pending EI under a clear IME, and the display controller between its thresholds. -/

namespace Sys2Proof.Machine

/-! ## The cost of a step (R328) -/

/-- The costs of a step (R328). -/
def stepCosts : List Nat := [4, 8, 12, 16, 20, 24]

/-- A completed outcome has one of the costs of R328. -/
def CostsAStep (o : Host.Outcome State Fault Refusal) : Prop := ∀ t, o = .next t → t.cost ∈ stepCosts

theorem costsAStep_next {t : State} (c : Nat) (hc : c ∈ stepCosts) (ht : t.cost = c) :
    CostsAStep (.next t) := fun u h => by
  cases h
  rw [ht]
  exact hc

theorem costsAStep_complete {c : Nat} (hc : c ∈ stepCosts) (r : Except Fault State) :
    CostsAStep (complete c r) := fun t h => by
  obtain ⟨u, -, rfl⟩ := complete_next h
  exact hc

theorem costsAStep_raise (c : Nat) (k : FaultKind) (s : State) : CostsAStep (complete c (raise k s)) := fun _ h => nomatch h

theorem costsAStep_ite {p : Prop} [Decidable p] {o o' : Host.Outcome State Fault Refusal} (h : CostsAStep o)
    (h' : CostsAStep o') : CostsAStep (if p then o else o') := by split <;> assumption

/-- An operation on an 8-bit operand, by its cost on a register and on the byte at HL. -/
theorem costsAStep_operand {register memory : Nat} (hr : register ∈ stepCosts)
    (hm : memory ∈ stepCosts) (x : Operand8) (r : Except Fault State) :
    CostsAStep (complete (operandCost x register memory) r) := by
  cases x
  · exact costsAStep_complete hr r
  · exact costsAStep_complete hm r

theorem costsAStep_meaning (f : Form) (s : State) : CostsAStep (Form.meaning f s) := by
  cases f with
  | alu o x | rot o x | bit k x | res k x | set k x => refine costsAStep_operand ?_ ?_ x _ <;> decide
  | jpCC c w | jrCC c e | callCC c w | retCC c =>
    exact costsAStep_ite (costsAStep_complete (by decide) _) (costsAStep_complete (by decide) _)
  | di =>
    show CostsAStep (opDi s)
    unfold opDi
    split <;> exact costsAStep_complete (by decide) _
  | ei =>
    show CostsAStep (opEi s)
    unfold opEi
    split
    · exact costsAStep_complete (by decide) _
    · exact costsAStep_ite (costsAStep_complete (by decide) _) (costsAStep_complete (by decide) _)
  | illegal op => exact costsAStep_raise 0 _ s
  | ldRR _ _ | incR _ | decR _ | daa | cpl | scf | ccf | rlca | rrca | rla | rra | jpHL | nop | halt | stop =>
    exact costsAStep_next 4 (by decide) rfl
  | ldRI _ _ | ldSPHL | aluI _ _ | addHL _ | incRr _ | decRr _ => exact costsAStep_next 8 (by decide) rfl
  | ldRrI _ _ | ldHLSPe _ | jr _ => exact costsAStep_next 12 (by decide) rfl
  | addSPe _ | jp _ => exact costsAStep_next 16 (by decide) rfl
  | _ => refine costsAStep_complete ?_ _; decide

@[simp] theorem settleEi_cost (armed : Bool) (s : State) : (settleEi armed s).cost = s.cost := by
  unfold settleEi
  split <;> rfl

theorem costsAStep_execute (s : State) : CostsAStep (execute s) := fun t h => by
  obtain ⟨i, u, v, -, hexec, rfl⟩ := execute_next h
  rw [exec_eq_meaning] at hexec
  rw [settleEi_cost]
  exact costsAStep_meaning i.form u v hexec

theorem costsAStep_processorPart (s : State) : CostsAStep (processorPart s) := by
  have hunspecified := costsAStep_raise 0 (.unspecifiedInterruptState (s.load Port.IF) (s.load Port.IE)) s
  unfold processorPart
  refine costsAStep_ite ?_ (costsAStep_ite (costsAStep_ite (costsAStep_complete (by decide) _) (costsAStep_ite
    (costsAStep_complete (by decide) _) (costsAStep_ite hunspecified (costsAStep_complete (by decide) _))))
    (costsAStep_execute s))
  split
  · cases s.params.isrCycles <;> exact costsAStep_complete (by decide) _
  · exact hunspecified

/-! ## A pending EI (R304) -/

theorem returnFromInterrupt_eiPending {s t : State} (h : returnFromInterrupt s = .ok t) : t.eiPending = s.eiPending := by
  obtain ⟨u, hu, ht⟩ := bind_ok h
  cases ht
  exact (enables_returnFromCall hu).eiPending

/-- An instruction that leaves an EI pending where none was leaves IME clear. -/
theorem exec_leaves_eiPending {i : Instr} {s t : State} (h : exec i s = .next t) (hs : s.eiPending = false)
    (ht : t.eiPending = true) : t.ime = false := by
  rcases exec_enables h with rfl | rfl | rfl | hsame
  · have h : opEi s = .next t := h
    unfold opEi at h
    split at h
    · cases h; exact absurd (hs.symm.trans ht) Bool.false_ne_true
    · split at h
      · cases h; exact absurd (hs.symm.trans ht) Bool.false_ne_true
      · next hime => cases h; exact Bool.eq_false_iff.2 hime
  · have h : opDi s = .next t := h
    unfold opDi at h
    split at h <;> (cases h; rfl)
  · obtain ⟨u, hu, rfl⟩ := complete_next (show complete 16 (returnFromInterrupt s) = .next t from h)
    rw [returnFromInterrupt_eiPending hu, hs] at ht
    cases ht
  · rw [hsame.eiPending, hs] at ht
    cases ht

/-- The end of the execute path leaves no EI pending that was armed before the instruction. -/
theorem settleEi_armed_eiPending (s : State) : (settleEi true s).eiPending = false := by
  unfold settleEi
  split
  · rfl
  · next h => simpa using h

theorem execute_masks_ei {s t : State} (hinv : s.Inv) (h : execute s = .next t) (ht : t.eiPending = true) :
    t.ime = false := by
  obtain ⟨i, u, v, hfetch, hexec, rfl⟩ := execute_next h
  cases harmed : eiArmed s with
  | true =>
    rw [harmed, settleEi_armed_eiPending] at ht
    cases ht
  | false =>
    rw [harmed] at ht
    have hs : s.eiPending = false := by
      cases hd : s.params.eiDelay with
      | none => exact hinv.eiPending hd
      | one => simpa [eiArmed, hd] using harmed
    exact exec_leaves_eiPending hexec ((enables_fetchInstr hfetch).eiPending.trans hs) ht

theorem serviceInterrupt_ime {i : InterruptSource} {s t : State} (h : serviceInterrupt i s = .ok t) : t.ime = false := by
  obtain ⟨u, hu, ht⟩ := bind_ok h
  cases ht
  exact (enables_push16 hu).ime

/-- After the processor's part an EI is pending only while IME is clear. -/
theorem processorPart_masks_ei {s t : State} (hinv : s.Inv) (h : processorPart s = .next t) (ht : t.eiPending = true) :
    t.ime = false := by
  simp only [processorPart] at h
  split at h
  · split at h
    · obtain ⟨u, hu, rfl⟩ := complete_next h
      exact (serviceInterrupt_ime hu :)
    · cases h
  · split at h
    · split_ifs at h <;> cases h <;> exact hinv.eiMasked ht
    · exact execute_masks_ei hinv h ht

/-! ## The display controller -/

/-- The automaton keeps the in-mode counter below the threshold and LY in the lines of the mode, if the cycles of an advance do
not reach past the next mode. -/
theorem move_keeps_line {m : Mode} {clock c : Nat} {ly : Byte} (hc : c < 79) (hclock : clock < m.threshold)
    (hline : lineInMode m clock ly.toNat) : (m.move (clock + c) ly).clock < (m.move (clock + c) ly).mode.threshold ∧
      lineInMode (m.move (clock + c) ly).mode (m.move (clock + c) ly).clock (m.move (clock + c) ly).ly.toNat := by
  cases m <;> simp only [Mode.threshold, lineInMode] at hclock hline <;> simp only [Mode.move]
  case spriteSearch => split <;> simp only [Mode.threshold, lineInMode] <;> omega
  case pixelTransfer => split <;> simp only [Mode.threshold, lineInMode] <;> omega
  case hBlank =>
    split
    · split
      · next hly => rw [hly, show (144 : Byte).toNat = 144 from rfl]; simp only [Mode.threshold, lineInMode]; omega
      · next hly => simp only [Mode.threshold, lineInMode]; bv_omega
    · simp only [Mode.threshold, lineInMode]; omega
  case vBlank =>
    split
    · simp [Mode.threshold, lineInMode]; omega
    · simp only [Mode.threshold, lineInMode, toNat_vBlankLine, and_true]; omega

/-- An advance by the cost of a step leaves the display controller in its invariant, from its own state in the invariant and any
STAT, LYC and LCDC that a program may have written. -/
theorem displayInv_displayAdvance {s : State} {c : Nat} (hc : c < 79)
    (hdisabled : s.display.enabled = false → s.load Port.LY = 0) (hclock : s.display.modeClock < s.display.mode.threshold)
    (hline : lineInMode s.display.mode s.display.modeClock (s.load Port.LY).toNat) : (displayAdvance c s).DisplayInv := by
  cases hlcdc : bit (s.load Port.LCDC) 7 with
  | false =>
    obtain ⟨hmode, hzero, hen, -, hly, hstat, hvram, hoam, -⟩ := disabledDisplay s c hlcdc
    refine ⟨fun _ => ⟨hmode, hzero, hly⟩, ?_, ?_, ?_, fun h => ?_, ?_, ?_⟩
    · rw [hmode, hzero]; decide
    · rw [hmode, hly]; simp [lineInMode]
    · rw [hmode, hstat]; rw [BitVec.and_assoc]; exact BitVec.and_zero
    · rw [hen] at h; cases h
    · rw [hmode, hvram]; rfl
    · rw [hmode, hoam]; rfl
  | true =>
    have ht := displayAdvance_move c hlcdc
    obtain ⟨hcode, hmatch, -⟩ := statByte_bits (displayMove c s).mode
      (decide ((displayMove c s).ly = s.load Port.LYC)) (s.load Port.STAT)
    have hmove : (displayMove c s).clock < (displayMove c s).mode.threshold ∧
        lineInMode (displayMove c s).mode (displayMove c s).clock (displayMove c s).ly.toNat := by
      unfold displayMove
      cases hen : s.display.enabled with
      | true => exact move_keeps_line hc hclock hline
      | false => exact move_keeps_line (m := .spriteSearch) hc (Nat.zero_lt_succ 78) (by simp [hdisabled hen, lineInMode])
    refine ⟨fun h => ?_, ?_, ?_, ?_, fun _ => ?_, ?_, ?_⟩
    · rw [ht.display] at h; cases h
    · rw [ht.display]; exact hmove.1
    · rw [ht.display, ht.ly]; exact hmove.2
    · rw [ht.display, ht.stat]; exact hcode
    · rw [ht.stat, ht.ly, (displayAdvance_same c s).2 Port.LYC (by decide) (by decide) (by decide)]; exact hmatch
    · rw [ht.display, ht.vramGate]
    · rw [ht.display, ht.oamGate]

/-! ## The invariant -/

theorem Keeps.memoryInv {s t : State} (h : Keeps s t) (hs : s.MemoryInv) : t.MemoryInv where
  mem := h.mem hs.mem
  cartRam := h.cartRam hs.cartRam
  cartRom := by rw [h.cart]; exact hs.cartRom
  bootRom := by rw [h.bootRom]; exact hs.bootRom
  memKeys := h.memKeys hs.memKeys
  bufferKeys := h.bufKeys hs.bufferKeys

theorem Advances.memoryInv {s t : State} (h : Advances s t) (hs : s.MemoryInv) : t.MemoryInv where
  mem := h.mem hs.mem
  cartRam := by rw [h.same]; exact hs.cartRam
  cartRom := by rw [h.same]; exact hs.cartRom
  bootRom := by rw [h.same]; exact hs.bootRom
  memKeys := h.memKeys hs.memKeys
  bufferKeys := by rw [h.same]; exact hs.bufferKeys

/-- The counter's advance leaves the display and LY, so the devices' advance leaves the display controller in its invariant. -/
theorem displayInv_advance {s : State} {c : Nat} (hc : c < 79)
    (hdisabled : s.display.enabled = false → s.load Port.LY = 0) (hclock : s.display.modeClock < s.display.mode.threshold)
    (hline : lineInMode s.display.mode s.display.modeClock (s.load Port.LY).toNat) : (advance c s).DisplayInv := by
  have hcounts := counts_timerAdvance c s
  have hdisplay : (timerAdvance c s).display = s.display := by rw [hcounts.same]
  have hly := hcounts.load Port.LY (by decide) (by decide) (by decide)
  refine displayInv_displayAdvance hc ?_ ?_ ?_ <;> rw [hdisplay]
  · rwa [hly]
  · exact hclock
  · rwa [hly]

@[simp] theorem displayAdvance_timer (c : Nat) (s : State) : (displayAdvance c s).timer = s.timer := by
  rw [(displayAdvance_same c s).1]

/-- Settles O46: the processor's part keeps what the invariant says of memory and of the display controller's own state, and the
advance re-establishes the rest. -/
theorem stepKeepsInvariant : Obligations.StepKeepsInvariant := by
  intro s t hinv hstep
  obtain ⟨-, u, hpart, rfl⟩ := step_next hstep
  have hkeeps : Keeps s u := by
    have hwithin := within_processorPart s
    rwa [hpart] at hwithin
  have hadv := advances_advance u.cost u
  have hcost : u.cost < 79 := by
    have hbound : ∀ c ∈ stepCosts, c < 79 := by decide
    exact hbound _ (costsAStep_processorPart s u hpart)
  have hdisplay := hinv.display
  refine ⟨hadv.memoryInv (hkeeps.memoryInv hinv.memory), displayInv_advance hcost ?_ ?_ ?_, ?_, ?_, ?_, ?_⟩
  · rw [hkeeps.display, hkeeps.ly]; exact fun hen => (hdisplay.disabled hen).2.2
  · rw [hkeeps.display]; exact hdisplay.clock
  · rw [hkeeps.display, hkeeps.ly]; exact hdisplay.line
  · rw [advance, displayAdvance_timer]; exact timerAdvance_divAcc_lt _ _
  · rw [hadv.same]
    exact fun hdelay => (hkeeps.eiPending (hkeeps.params ▸ hdelay)).trans (hinv.eiPending (hkeeps.params ▸ hdelay))
  · rw [hadv.same]; exact (processorPart_masks_ei hinv hpart :)
  · rw [hadv.same]; exact hkeeps.fault.trans hinv.running

end Sys2Proof.Machine
end

section
/-! PROOFS. The periodic counter (60_exceptions.md R341, R342): each loop is as many passes as whole periods have accumulated. -/

namespace Sys2Proof.Machine

/-- A loop that takes `d` from an accumulator at each pass, with as many passes allowed as it can need, makes one pass for each
whole `d`. -/
theorem loop_eq_iterate {loop : Nat → State → State} {tick : State → State} {acc : State → Nat} {d : Nat} (hd : 0 < d)
    (hzero : ∀ s, loop 0 s = s) (hsucc : ∀ n s, loop (n + 1) s = if d ≤ acc s then loop n (tick s) else s)
    (htick : ∀ s, acc (tick s) = acc s - d) {n : Nat} {s : State} (hn : acc s ≤ n) : loop n s = tick^[acc s / d] s := by
  induction n generalizing s with
  | zero => rw [hzero, Nat.le_zero.1 hn, Nat.zero_div, Function.iterate_zero_apply]
  | succ n ih =>
    rw [hsucc]
    split
    · next h => rw [ih (by rw [htick]; omega), htick, Nat.div_eq_sub_div hd h, Function.iterate_succ_apply]
    · next h => rw [Nat.div_eq_of_lt (Nat.lt_of_not_ge h), Function.iterate_zero_apply]

/-! ## The divider (R341) -/

/-- Proved by rewriting and not by `rfl`, so that `simp` uses it under a decision together with the decision's instance. -/
@[simp] theorem State.load_withTimer (s : State) (a : Timer) (k : Nat) : State.load { s with timer := a } k = s.load k := by
  simp only [State.load]

theorem divTick_load (s : State) (k : Nat) :
    (divTick s).load k = if k = Port.DIV then s.load Port.DIV + 1 else s.load k := by
  simp only [divTick, State.load_store, State.load_withTimer]

/-- The divider's passes. -/
theorem divTick_iterate (n : Nat) (s : State) :
    divTick^[n] s = { s with mem := (divTick^[n] s).mem, timer := { s.timer with divAcc := s.timer.divAcc - 256 * n } } ∧
    (divTick^[n] s).load Port.DIV = s.load Port.DIV + BitVec.ofNat 8 n ∧
    ∀ k, k ≠ Port.DIV → (divTick^[n] s).load k = s.load k := by
  induction n with
  | zero => exact ⟨rfl, (BitVec.add_zero _).symm, fun _ _ => rfl⟩
  | succ n ih =>
    obtain ⟨hsame, hdiv, hrest⟩ := ih
    rw [Function.iterate_succ_apply']
    generalize divTick^[n] s = u at *
    refine ⟨?_, ?_, fun k hk => by rw [divTick_load, if_neg hk, hrest k hk]⟩
    · have hacc : u.timer.divAcc - 256 = s.timer.divAcc - 256 * (n + 1) := by
        have hu : u.timer.divAcc = s.timer.divAcc - 256 * n := congrArg (·.timer.divAcc) hsame
        omega
      rw [divTick, hacc, hsame]
      rfl
    · rw [divTick_load, if_pos rfl, hdiv, BitVec.ofNat_add, ← BitVec.add_assoc]
      rfl

theorem divAdvance_eq (cost : Nat) (s : State) : divAdvance cost s =
    divTick^[(s.timer.divAcc + cost) / 256] { s with timer := { s.timer with divAcc := s.timer.divAcc + cost } } :=
  loop_eq_iterate (acc := fun s => s.timer.divAcc) (by decide) (fun _ => rfl) (fun _ _ => rfl) (fun _ => rfl) (Nat.le_refl _)

/-- Settles O50: the passes of the divider, one for each whole period. -/
theorem dividerLaw : Obligations.DividerLaw := by
  intro s cost
  obtain ⟨hsame, hdiv, hrest⟩ := divTick_iterate ((s.timer.divAcc + cost) / 256)
    { s with timer := { s.timer with divAcc := s.timer.divAcc + cost } }
  simp only [← divAdvance_eq, ← Nat.mod_eq_sub] at hsame hdiv hrest
  exact ⟨hdiv, hsame, rfl, hrest⟩

/-! ## TIMA (R342) -/

/-- The value of TIMA after `n` increments from `x`, with `m` in TMA. -/
def timaAfter (x m n : Nat) : Nat := if n < 256 - x then x + n else m + (n - (256 - x)) % (256 - m)

theorem succ_mod_eq_ite {p : Nat} (hp : 0 < p) (a : Nat) : (a + 1) % p = if a % p + 1 = p then 0 else a % p + 1 := by
  have hlt := Nat.mod_lt a hp
  have ha := Nat.div_add_mod a p
  split
  · next h => rw [← ha, Nat.add_assoc, h, ← Nat.mul_succ, Nat.mul_mod_right]
  · next h => rw [← ha, Nat.add_assoc, Nat.mul_add_mod, Nat.mod_eq_of_lt (by omega), ha]

/-- One increment more: a reload at 0xFF, else the next value; and the first reload is the overflow. -/
theorem timaAfter_succ {x m : Nat} (hx : x < 256) (hm : m < 256) (n : Nat) :
    timaAfter x m (n + 1) = (if timaAfter x m n = 255 then m else timaAfter x m n + 1) ∧
    (256 - x ≤ n + 1 ↔ 256 - x ≤ n ∨ timaAfter x m n = 255) := by
  have hmod := succ_mod_eq_ite (show 0 < 256 - m by omega) (n - (256 - x))
  unfold timaAfter
  rcases Nat.lt_or_ge n (256 - x) with hlt | hge
  · rw [if_pos hlt]
    rcases Nat.lt_or_ge (n + 1) (256 - x) with hlt' | hge'
    · rw [if_pos hlt', if_neg (by omega)]
      omega
    · rw [if_neg hge'.not_gt, if_pos (by omega), show n + 1 - (256 - x) = 0 by omega, Nat.zero_mod]
      omega
  · rw [if_neg hge.not_gt, if_neg (by omega), show n + 1 - (256 - x) = n - (256 - x) + 1 by omega, hmod]
    generalize (n - (256 - x)) % (256 - m) = r
    split_ifs <;> omega

theorem timaAfter_lt {x m : Nat} (hm : m < 256) (n : Nat) : timaAfter x m n < 256 := by
  have := Nat.mod_lt (n - (256 - x)) (show 0 < 256 - m by omega)
  unfold timaAfter
  split <;> omega

/-- Every byte after an increment of TIMA. -/
theorem timaIncrement_load (s : State) (k : Nat) : (timaIncrement s).load k =
    if k = Port.TIMA then (if s.load Port.TIMA = 0xFF then s.load Port.TMA else s.load Port.TIMA + 1)
    else if k = Port.IF then (if s.load Port.TIMA = 0xFF then s.load Port.IF ||| 0x04 else s.load Port.IF)
    else s.load k := by
  unfold timaIncrement
  by_cases h : s.load Port.TIMA = 0xFF
  · simp only [if_pos h, State.load_store]
    split_ifs <;> simp_all
  · simp only [if_neg h, State.load_store]
    split_ifs <;> simp_all

theorem timaTick_load (d : Nat) (s : State) (k : Nat) : (timaTick d s).load k =
    if k = Port.TIMA then (if s.load Port.TIMA = 0xFF then s.load Port.TMA else s.load Port.TIMA + 1)
    else if k = Port.IF then (if s.load Port.TIMA = 0xFF then s.load Port.IF ||| 0x04 else s.load Port.IF)
    else s.load k := by
  simp only [timaTick, timaIncrement_load, State.load_withTimer]

theorem timaTick_same (d : Nat) (s : State) : timaTick d s =
    { s with mem := (timaTick d s).mem, timer := { s.timer with timaAcc := s.timer.timaAcc - d } } := by
  unfold timaTick timaIncrement
  split <;> rfl

/-- TIMA's passes at divisor `d`. -/
theorem timaTick_iterate (d n : Nat) (s : State) :
    (timaTick d)^[n] s = { s with mem := ((timaTick d)^[n] s).mem
                                  timer := { s.timer with timaAcc := s.timer.timaAcc - d * n } } ∧
    (∀ k, k ≠ Port.TIMA → k ≠ Port.IF → ((timaTick d)^[n] s).load k = s.load k) ∧
    (((timaTick d)^[n] s).load Port.TIMA).toNat = timaAfter (s.load Port.TIMA).toNat (s.load Port.TMA).toNat n ∧
    ((timaTick d)^[n] s).load Port.IF =
      if 256 - (s.load Port.TIMA).toNat ≤ n then s.load Port.IF ||| 0x04 else s.load Port.IF := by
  have hx := (s.load Port.TIMA).isLt
  have hm := (s.load Port.TMA).isLt
  induction n with
  | zero =>
    have h0 : timaAfter (s.load Port.TIMA).toNat (s.load Port.TMA).toNat 0 = (s.load Port.TIMA).toNat :=
      (if_pos (by omega)).trans (Nat.add_zero _)
    exact ⟨rfl, fun _ _ _ => rfl, h0.symm, (if_neg (by omega)).symm⟩
  | succ n ih =>
    obtain ⟨hsame, hrest, htima, hif⟩ := ih
    obtain ⟨hafter, hover⟩ := timaAfter_succ hx hm n
    rw [Function.iterate_succ_apply']
    generalize (timaTick d)^[n] s = u at *
    have hfull : u.load Port.TIMA = 0xFF ↔ timaAfter (s.load Port.TIMA).toNat (s.load Port.TMA).toNat n = 255 := by
      rw [← htima, ← BitVec.toNat_inj]; rfl
    have hload := timaTick_load d u
    refine ⟨?_, fun k h1 h2 => ?_, ?_, ?_⟩
    · have hacc : u.timer.timaAcc - d = s.timer.timaAcc - d * (n + 1) := by
        have hu : u.timer.timaAcc = s.timer.timaAcc - d * n := congrArg (·.timer.timaAcc) hsame
        rw [hu, Nat.sub_sub, Nat.mul_succ]
      rw [timaTick_same, hacc, hsame]
    · rw [hload, if_neg h1, if_neg h2, hrest k h1 h2]
    · rw [hload, if_pos rfl, hafter, hrest Port.TMA (by decide) (by decide)]
      by_cases h : u.load Port.TIMA = 0xFF
      · rw [if_pos h, if_pos (hfull.1 h)]
      · have hlt := timaAfter_lt (x := (s.load Port.TIMA).toNat) hm n
        have hne := mt hfull.2 h
        rw [if_neg h, if_neg hne, BitVec.toNat_add, htima]
        exact Nat.mod_eq_of_lt (by show _ + 1 < 256; omega)
    · rw [hload, if_neg (by decide), if_pos rfl, hif]
      by_cases h : u.load Port.TIMA = 0xFF
      · have hor : (s.load Port.IF ||| 0x04) ||| 0x04 = s.load Port.IF ||| 0x04 := by rw [BitVec.or_assoc, BitVec.or_self]
        rw [if_pos h, if_pos (hover.2 (.inr (hfull.1 h)))]
        split
        · exact hor
        · rfl
      · have hiff : 256 - (s.load Port.TIMA).toNat ≤ n + 1 ↔ 256 - (s.load Port.TIMA).toNat ≤ n :=
          hover.trans (or_iff_left (mt hfull.2 h))
        simp only [if_neg h, hiff]

theorem timaDivisor_pos (tac : Byte) : 0 < timaDivisor tac := by
  unfold timaDivisor
  split <;> decide

theorem timaAdvance_disabled {s : State} (h : bit (s.load Port.TAC) 2 = false) (cost : Nat) : timaAdvance cost s = s := by
  simp only [timaAdvance, h, Bool.false_eq_true, if_false]

theorem timaAdvance_enabled {s : State} (h : bit (s.load Port.TAC) 2 = true) (cost : Nat) : timaAdvance cost s =
    (timaTick (timaDivisor (s.load Port.TAC)))^[(s.timer.timaAcc + cost) / timaDivisor (s.load Port.TAC)]
      { s with timer := { s.timer with timaAcc := s.timer.timaAcc + cost } } := by
  simp only [timaAdvance, h, if_true]
  refine loop_eq_iterate (acc := fun s => s.timer.timaAcc) (timaDivisor_pos _) (fun _ => rfl) (fun _ _ => rfl) (fun u => ?_)
    (Nat.le_refl _)
  rw [timaTick, timaIncrement_timer]

/-- Settles O51: the passes of TIMA, one for each whole period. -/
theorem timerLaw : Obligations.TimerLaw := by
  rintro s cost d n x m rfl rfl hd hn
  have hd : d = timaDivisor (s.load Port.TAC) := hd
  refine ⟨fun h => timaAdvance_disabled h cost, fun h => ?_⟩
  obtain ⟨hsame, hrest, htima, hif⟩ := timaTick_iterate d n
    { s with timer := { s.timer with timaAcc := s.timer.timaAcc + cost } }
  rw [hn, hd] at hsame hrest htima hif
  simp only [← timaAdvance_enabled h, ← Nat.mod_eq_sub, State.load_withTimer] at hsame hrest htima hif
  rw [← hd] at hsame htima hif
  rw [← hn] at htima hif
  refine ⟨hsame, hrest, fun hlt => ⟨?_, ?_⟩, fun hge => ⟨?_, ?_⟩⟩
  · rw [htima]; exact if_pos hlt
  · rw [hif, if_neg hlt.not_ge]
  · rw [htima]; exact if_neg hge.not_gt
  · rw [hif, if_pos hge]

end Sys2Proof.Machine
end

section
/-! PROOFS. The scanline renderer (60_exceptions.md R381 to R393): the background and window passes, the sprites of a line, and how
a sprite draws. -/

namespace Sys2Proof.Machine

variable {s : State}

/-! ## The background and the window (R381 to R386) -/

/-- The shade of a colour index is its two bits of the palette (R384). -/
theorem shade_eq (palette : Byte) (ci : BitVec 2) :
    [Grey.g255, .g170, .g85, .g0][(palette.toNat / 4 ^ ci.toNat) % 4]? = some (shade palette ci) := by
  have hshift : (palette >>> (2 * ci.toNat)).toNat = palette.toNat / 4 ^ ci.toNat := by
    rw [BitVec.toNat_ushiftRight, Nat.shiftRight_eq_div_pow, Nat.pow_mul]
  have hlt := Nat.mod_lt (palette.toNat / 4 ^ ci.toNat) (show 0 < 4 by decide)
  unfold shade
  rw [hshift]
  generalize palette.toNat / 4 ^ ci.toNat % 4 = i at *
  obtain rfl | rfl | rfl | rfl : i = 0 ∨ i = 1 ∨ i = 2 ∨ i = 3 := by omega
  all_goals rfl

/-- The two bit-planes of a pixel (R382). -/
theorem tilePixel_bits (s : State) (a r c : Nat) :
    (tilePixel s a r c).getLsbD 0 = bit (s.load (a + 2 * r)) (7 - c) ∧
    (tilePixel s a r c).getLsbD 1 = bit (s.load (a + 2 * r + 1)) (7 - c) := by
  unfold tilePixel
  generalize bit (s.load (a + 2 * r)) (7 - c) = low
  generalize bit (s.load (a + 2 * r + 1)) (7 - c) = high
  decide +revert

/-- Both addressing modes over the integers (R382). -/
theorem tileBase_eq (s : State) (t : Byte) : (tileBase s t : Int) =
    if bit (s.load Port.LCDC) 4 then 0x8000 + 16 * (t.toNat : Int) else 0x9000 + 16 * t.toInt := by
  have hint := BitVec.toInt_eq_toNat_cond t
  unfold tileBase
  split_ifs at hint ⊢ <;> omega

/-- A pixel of a map: the tile that the entry names, its bit-planes and the palette. -/
theorem mapPixel_spec (s : State) (base v h : Nat) : ∃ (tile : Byte) (row : Nat) (ci : BitVec 2),
    tile = s.load (base + v / 8 * 32 + h / 8) ∧
    (row : Int) = (if bit (s.load Port.LCDC) 4 then 0x8000 + 16 * (tile.toNat : Int) else 0x9000 + 16 * tile.toInt)
      + 2 * (v % 8 : Nat) ∧
    ci.getLsbD 0 = bit (s.load row) (7 - h % 8) ∧ ci.getLsbD 1 = bit (s.load (row + 1)) (7 - h % 8) ∧
    (mapPixel s base v h).1 = ci ∧
    [Grey.g255, .g170, .g85, .g0][((s.load Port.BGP).toNat / 4 ^ ci.toNat) % 4]? = some (mapPixel s base v h).2 := by
  obtain ⟨hlow, hhigh⟩ := tilePixel_bits s (tileBase s (s.load (base + v / 8 * 32 + h / 8))) (v % 8) (h % 8)
  refine ⟨_, tileBase s (s.load (base + v / 8 * 32 + h / 8)) + 2 * (v % 8), _, rfl, ?_, hlow, hhigh, rfl, shade_eq _ _⟩
  rw [Nat.cast_add, tileBase_eq]
  push_cast
  rfl

theorem windowCovers_iff {ly x : Nat} : windowCovers s ly x = true ↔ bit (s.load Port.LCDC) 5 = true ∧
    (s.load Port.WY).toNat ≤ ly ∧ (s.load Port.WX).toNat ≤ 166 ∧ (s.load Port.WX).toNat ≤ x + 7 ∧
      (s.params.winNeedsBg = true → bit (s.load Port.LCDC) 0 = true) := by
  have himp : (!s.params.winNeedsBg || bit (s.load Port.LCDC) 0) = true ↔
      (s.params.winNeedsBg = true → bit (s.load Port.LCDC) 0 = true) := by
    cases s.params.winNeedsBg <;> simp
  simp only [windowCovers, Bool.and_eq_true, decide_eq_true_eq, and_assoc, himp]

theorem underPixel_window {ly x : Nat} (h : windowCovers s ly x = true) : underPixel s ly x = windowPixel s ly x := if_pos h

theorem underPixel_background {ly x : Nat} (h : windowCovers s ly x = false) :
    underPixel s ly x = backgroundPixel s ly x := if_neg (ne_true_of_eq_false h)

/-- Settles O57: a column is the window's where the window covers it, else the background's, and both are pixels of a map. -/
theorem backgroundAndWindow : Obligations.BackgroundAndWindow := by
  intro s ly x
  refine ⟨windowCovers_iff, fun hbg hw => ?_, fun base v h hcase => ?_⟩
  · rw [underPixel_background hw]
    exact if_neg (ne_true_of_eq_false hbg)
  · have hpixel : underPixel s ly x = mapPixel s base v h := by
      rcases hcase with ⟨hw, rfl, rfl, rfl⟩ | ⟨hw, hbg, rfl, rfl, rfl⟩
      · exact underPixel_window hw
      · rw [underPixel_background hw]
        exact if_pos hbg
    rw [hpixel]
    exact mapPixel_spec s base v h

/-! ## The sprites of a line (R387, R388) -/

theorem insertSprite_eq (p : Sprite) (l : List Sprite) : insertSprite p l = l.orderedInsert (fun p q => p.x ≤ q.x) p := by
  induction l with
  | nil => rfl
  | cons q l ih => rw [insertSprite, ih, List.orderedInsert]

theorem sortSprites_eq (l : List Sprite) : sortSprites l = l.insertionSort (fun p q => p.x ≤ q.x) := by
  induction l with
  | nil => rfl
  | cons p l ih => rw [List.insertionSort_cons, ← ih, ← insertSprite_eq]; rfl

/-- The order of a line's sprites, by index: ascending x, equal x by ascending index. -/
def spriteBefore (s : State) (j k : Nat) : Prop :=
  (s.load (0xFE01 + 4 * j)).toNat < (s.load (0xFE01 + 4 * k)).toNat ∨
    s.load (0xFE01 + 4 * j) = s.load (0xFE01 + 4 * k) ∧ j < k

theorem spriteAt_eq (s : State) (k : Nat) : spriteAt s k = ⟨(s.load (0xFE00 + 4 * k)).toNat,
    (s.load (0xFE01 + 4 * k)).toNat, (s.load (0xFE02 + 4 * k)).toNat, s.load (0xFE03 + 4 * k)⟩ := by
  rw [spriteAt, show 0xFE01 + 4 * k = 0xFE00 + 4 * k + 1 by omega, show 0xFE02 + 4 * k = 0xFE00 + 4 * k + 2 by omega,
    show 0xFE03 + 4 * k = 0xFE00 + 4 * k + 3 by omega]

/-- An entry with a smaller index comes before one whose x is not smaller. -/
theorem spriteBefore_of_le {j k : Nat} (hjk : j < k) (hx : (spriteAt s j).x ≤ (spriteAt s k).x) : spriteBefore s j k := by
  rw [spriteAt_eq, spriteAt_eq] at hx
  exact (Nat.lt_or_eq_of_le hx).imp id fun h => ⟨BitVec.eq_of_toNat_eq h, hjk⟩

theorem le_of_spriteBefore {j k : Nat} (h : spriteBefore s j k) : (spriteAt s j).x ≤ (spriteAt s k).x := by
  rw [spriteAt_eq, spriteAt_eq]
  rcases h with h | ⟨h, -⟩
  · exact Nat.le_of_lt h
  · exact Nat.le_of_eq (congrArg BitVec.toNat h)

theorem spriteBefore_of_lt {j k : Nat} (hx : (spriteAt s j).x < (spriteAt s k).x) : spriteBefore s j k := by
  rw [spriteAt_eq, spriteAt_eq] at hx
  exact .inl hx

/-- The stable sort by x, on indices (R388). -/
def sortIndices (s : State) (l : List Nat) : List Nat := l.insertionSort fun j k => (spriteAt s j).x ≤ (spriteAt s k).x

theorem map_sortIndices (s : State) (l : List Nat) :
    (sortIndices s l).map (spriteAt s) = sortSprites (l.map (spriteAt s)) := by
  rw [sortSprites_eq]
  exact List.map_insertionSort _ _ _ _ fun _ _ _ _ => Iff.rfl

/-- Rising indices sorted by x are in the order of a line. -/
theorem pairwise_sortIndices {l : List Nat} (hl : l.Pairwise (· < ·)) : (sortIndices s l).Pairwise (spriteBefore s) := by
  unfold sortIndices
  induction l with
  | nil => exact .nil
  | cons j l ih =>
    obtain ⟨hj, hl⟩ := List.pairwise_cons.1 hl
    have hj' : ∀ k ∈ l.insertionSort fun j k => (spriteAt s j).x ≤ (spriteAt s k).x, j < k := fun k hk =>
      hj k ((List.mem_insertionSort _).1 hk)
    rw [List.insertionSort_cons]
    specialize ih hl
    generalize (l.insertionSort fun j k => (spriteAt s j).x ≤ (spriteAt s k).x) = m at ih hj'
    induction m with
    | nil => exact List.pairwise_singleton _ _
    | cons k m ihm =>
      obtain ⟨hk, hm⟩ := List.pairwise_cons.1 ih
      rw [List.orderedInsert_cons]
      split
      · next hx =>
        refine List.pairwise_cons.2 ⟨fun i hi => spriteBefore_of_le (hj' i hi) ?_, ih⟩
        rcases List.mem_cons.1 hi with rfl | hi
        · exact hx
        · exact hx.trans (le_of_spriteBefore (hk i hi))
      · next hx =>
        refine List.pairwise_cons.2 ⟨fun i hi => ?_, ihm hm fun i hi => hj' i (List.mem_cons_of_mem k hi)⟩
        rcases (List.mem_orderedInsert _).1 hi with rfl | hi
        · exact spriteBefore_of_lt (Nat.lt_of_not_ge hx)
        · exact hk i hi

theorem spriteOnLine_iff {h ly : Nat} {p : Sprite} : spriteOnLine h ly p = true ↔ p.y ≤ ly + 16 ∧ ly + 16 < p.y + h :=
  decide_eq_true_iff

/-- The indices of the entries that meet a line, rising (R387). -/
def indicesOnLine (s : State) (ly : Nat) : List Nat :=
  (List.range 40).filter fun k => spriteOnLine (spriteHeight s) ly (spriteAt s k)

theorem mem_indicesOnLine {ly k : Nat} : k ∈ indicesOnLine s ly ↔ k < 40 ∧
    ((s.load (0xFE00 + 4 * k)).toNat : Int) - 16 ≤ ly ∧
    (ly : Int) < (s.load (0xFE00 + 4 * k)).toNat - 16 + spriteHeight s := by
  rw [indicesOnLine, List.mem_filter, List.mem_range, spriteOnLine_iff, spriteAt_eq]
  dsimp only
  omega

/-- The indices of the sprites that a line keeps, in its order (R388). -/
def keptIndices (s : State) (ly : Nat) : List Nat := (sortIndices s (indicesOnLine s ly)).take 10

theorem lineSprites_eq (ly : Nat) (h : s.params.objEnable = false ∨ bit (s.load Port.LCDC) 1 = true) :
    lineSprites s ly = (keptIndices s ly).map (spriteAt s) := by
  have hon : (s.params.objEnable && !bit (s.load Port.LCDC) 1) = false := by rcases h with h | h <;> simp [h]
  rw [lineSprites, hon, if_neg Bool.false_ne_true, keptIndices, List.map_take, map_sortIndices, indicesOnLine, List.filter_map]
  rfl

theorem pairwise_sorted_indicesOnLine (s : State) (ly : Nat) :
    (sortIndices s (indicesOnLine s ly)).Pairwise (spriteBefore s) :=
  pairwise_sortIndices (List.pairwise_lt_range.filter _)

/-- An entry that meets the line is kept, or comes after the ten that are. -/
theorem kept_or_after {ly k : Nat} (hk : k ∈ indicesOnLine s ly) :
    k ∈ keptIndices s ly ∨ (keptIndices s ly).length = 10 ∧ ∀ j ∈ keptIndices s ly, spriteBefore s j k := by
  have hpair := pairwise_sorted_indicesOnLine s ly
  have hmem : k ∈ sortIndices s (indicesOnLine s ly) := (List.mem_insertionSort _).2 hk
  unfold keptIndices
  generalize sortIndices s (indicesOnLine s ly) = l at *
  rw [← List.take_append_drop 10 l, List.pairwise_append] at hpair
  rw [← List.take_append_drop 10 l, List.mem_append] at hmem
  refine hmem.imp id fun hdrop => ⟨?_, fun j hj => hpair.2.2 j hj k hdrop⟩
  have hlong := List.length_pos_of_mem hdrop
  rw [List.length_drop] at hlong
  rw [List.length_take]
  omega

/-- Settles O58: the kept sprites are the first ten of the rising indices of the line, sorted by x. -/
theorem spriteSelection : Obligations.SpriteSelection := by
  rintro s ly _ rfl
  refine ⟨fun hp hlcdc => ?_, fun hon => ⟨keptIndices s ly, ?_, List.length_take_le _ _, ?_, fun k hk => ?_,
    fun k h40 hlow hhigh => ?_⟩⟩
  · simp [lineSprites, hp, hlcdc]
  · rw [lineSprites_eq ly hon]
    exact List.map_congr_left fun k _ => spriteAt_eq s k
  · exact (pairwise_sorted_indicesOnLine s ly).sublist (List.take_sublist _ _)
  · exact mem_indicesOnLine.1 ((List.mem_insertionSort _).1 (List.mem_of_mem_take hk))
  · exact kept_or_after (mem_indicesOnLine.2 ⟨h40, hlow, hhigh⟩)

/-! ## How a sprite draws (R389 to R393) -/

/-- Drawn in reverse order, the first sprite of the list that draws is the one that shows (R389). -/
theorem foldr_getD_eq_findSome? (f : Sprite → Option Grey) (l : List Sprite) (g : Grey) :
    l.foldr (fun p g => (f p).getD g) g = (l.findSome? f).getD g := by
  induction l with
  | nil => rfl
  | cons p l ih =>
    rw [List.foldr_cons, ih, List.findSome?_cons]
    cases f p <;> rfl

theorem columnGrey_eq (s : State) (ly x : Nat) : columnGrey s ly x =
    ((lineSprites s ly).findSome? (spritePixel s ly x (underPixel s ly x).1)).getD (underPixel s ly x).2 :=
  foldr_getD_eq_findSome? _ _ _

/-- The tile of a sprite's row: its own at height 8, at height 16 the even or the odd one of its pair (R390). -/
def spriteTile (h row : Nat) (p : Sprite) : Nat :=
  if h = 16 then (if row < 8 then p.tile / 2 * 2 else p.tile / 2 * 2 + 1) else p.tile

/-- The row of a sprite that a line shows, by the flip of attr bit 6 (R390). -/
def spriteRow (h ly : Nat) (p : Sprite) : Nat := if bit p.attr 6 then h - 1 - (ly + 16 - p.y) else ly + 16 - p.y

/-- The column of a sprite that a column of the line shows, by the flip of attr bit 5 (R390). -/
def spriteColumn (x : Nat) (p : Sprite) : Nat := if bit p.attr 5 then 7 - (x + 8 - p.x) else x + 8 - p.x

theorem spriteIndex_eq (s : State) (ly x : Nat) (p : Sprite) : spriteIndex s ly x p =
    if p.x ≤ x + 8 ∧ x < p.x then
      some (tilePixel s (0x8000 + 16 * spriteTile (spriteHeight s) (spriteRow (spriteHeight s) ly p) p)
        (spriteRow (spriteHeight s) ly p % 8) (spriteColumn x p))
    else none := rfl

theorem spriteTile_eq {h : Nat} (hh : h = 8 ∨ h = 16) (row : Nat) (p : Sprite) : spriteTile h row p =
    if h = 8 then p.tile else if row < 8 then p.tile - p.tile % 2 else p.tile - p.tile % 2 + 1 := by
  unfold spriteTile
  rcases hh with rfl | rfl
  · rfl
  · simp only [show p.tile / 2 * 2 = p.tile - p.tile % 2 by omega]
    rfl

theorem spriteHeight_cases (s : State) : spriteHeight s = 8 ∨ spriteHeight s = 16 := by
  unfold spriteHeight
  split
  · exact .inr rfl
  · exact .inl rfl

section
variable {ly x : Nat} {under ci : BitVec 2} {p : Sprite}

theorem spritePixel_of_none (h : spriteIndex s ly x p = none) : spritePixel s ly x under p = none := by
  simp only [spritePixel, h]

/-- What a sprite draws where it has a colour index (R391 to R393). -/
theorem spritePixel_of_some (h : spriteIndex s ly x p = some ci) : spritePixel s ly x under p =
    if ci = 0 then none else if bit p.attr 7 = true ∧ under ≠ 0 then none
    else some (shade (s.load (if bit p.attr 4 then Port.OBP1 else Port.OBP0)) ci) := by
  simp only [spritePixel, h]

end

/-- Settles O59: the first sprite that draws, the columns a sprite covers, its tile row and column, and what it draws there. -/
theorem spriteDrawing : Obligations.SpriteDrawing := by
  refine ⟨fun s ly x => ?_, fun s ly x p => ?_, ?_, fun s ly x under p => ⟨spritePixel_of_none, fun ci hci => ?_⟩⟩
  · rw [columnGrey_eq]
    cases (lineSprites s ly).findSome? (spritePixel s ly x (underPixel s ly x).1) <;> rfl
  · rw [spriteIndex_eq]
    split <;> simp <;> omega
  · rintro s ly x _ _ _ tile p rfl - - hx1 hx2 rfl rfl htile
    have htile : tile = spriteTile (spriteHeight s) (spriteRow (spriteHeight s) ly p) p := by
      rw [htile, spriteTile_eq (spriteHeight_cases s)]
      rfl
    subst htile
    exact ⟨_, (spriteIndex_eq s ly x p).trans (if_pos ⟨hx1, hx2⟩), tilePixel_bits s _ _ _⟩
  · rw [spritePixel_of_some hci]
    refine ⟨fun h0 => if_pos h0, fun h7 hu => ?_, fun h0 hshow => ?_⟩
    · rw [if_pos (And.intro h7 hu), ite_self]
    · have hfront : ¬ (bit p.attr 7 = true ∧ under ≠ 0) := fun ⟨h7, hu⟩ =>
        hshow.elim (fun h => Bool.false_ne_true (h.symm.trans h7)) hu
      rw [if_neg h0, if_neg hfront]

end Sys2Proof.Machine
end

section
/-! PROOFS. The processor's part of a step (60_exceptions.md R320 to R334): the bytes at PC fetched as an instruction, interrupt
service, and the halted core. -/

namespace Sys2Proof.Machine

/-! ## The fetch (R110, R324) -/

section
variable {s t : State}

theorem fetches_cons {b : Byte} {bytes : List Byte} (h : s.Fetches (b :: bytes) t) :
    ∃ u, fetch8 s = .ok (b, u) ∧ u.params = s.params ∧ u.Fetches bytes t := by
  obtain ⟨u, hread, hrest⟩ := h
  exact ⟨_, fetch8_of_reads hread, hread.access.keeps.params, hrest⟩

/-- Fetching bytes changes PC and the draw count alone. -/
theorem State.Fetches.same {bytes : List Byte} (h : s.Fetches bytes t) :
    t = { s with pc := s.pc + BitVec.ofNat 16 bytes.length, draws := t.draws } := by
  induction bytes generalizing s with
  | nil =>
    cases h
    rw [List.length_nil, BitVec.add_zero]
  | cons b bytes ih =>
    obtain ⟨u, hread, hrest⟩ := h
    have hpc : s.pc + 1 + BitVec.ofNat 16 bytes.length = s.pc + BitVec.ofNat 16 (bytes.length + 1) := by
      rw [Nat.add_comm, BitVec.ofNat_add, BitVec.add_assoc]
      rfl
    rw [List.length_cons, ← hpc]
    have hu := ih hrest
    rcases hread with ⟨-, rfl⟩ | ⟨-, -, rfl⟩ <;> exact hu

theorem fetch8_outOfRange {off : Nat} (h : busView s s.pc = .outOfRange off) :
    fetch8 s = .error (.cartridgeOutOfRange off (s.stopped (.cartridgeOutOfRange off))) := by
  simp only [fetch8, memRead_outOfRange h, error_bind]

/-- The operand bytes at PC are fetched as operands; a byte past their number does not count. -/
theorem fetchOperands_of_fetches {n : Nat} (hn : n ≤ 2) {b1 b2 : Byte} (h : s.Fetches ([b1, b2].take n) t) :
    ∃ c1 c2, fetchOperands n s = .ok ((c1, c2), t) ∧ [c1, c2].take n = [b1, b2].take n := by
  obtain rfl | rfl | rfl : n = 0 ∨ n = 1 ∨ n = 2 := by omega
  · cases h
    exact ⟨0, 0, rfl, rfl⟩
  · obtain ⟨u, h1, -, ht⟩ := fetches_cons h
    cases ht
    exact ⟨b1, 0, by simp only [fetchOperands, h1, ok_bind, pure_ok], rfl⟩
  · obtain ⟨u, h1, -, hu⟩ := fetches_cons h
    obtain ⟨v, h2, -, ht⟩ := fetches_cons hu
    cases ht
    exact ⟨b1, b2, by simp only [fetchOperands, h1, h2, ok_bind, pure_ok], rfl⟩

/-- The bytes of an instruction at PC are fetched as that instruction. -/
theorem fetchInstr_of_fetches {op b1 b2 : Byte} (h : s.Fetches ([op, b1, b2].take (instrLength s.params.stopLen op)) t) :
    fetchInstr s = .ok (decodeBytes op b1 b2, t) := by
  rw [instrLength, Nat.add_comm, List.take_succ_cons] at h
  obtain ⟨u, hop, hparams, hrest⟩ := fetches_cons h
  rw [← hparams] at hrest
  obtain ⟨c1, c2, hoperands, htake⟩ := fetchOperands_of_fetches (operandBytes_le_two _ _) hrest
  simp only [fetchInstr, hop, ok_bind, hoperands, pure_ok, decodeBytes_congr _ htake]

/-- Where a byte that the operands need lies outside the cartridge, their fetch faults at it. -/
theorem fetchOperands_outOfRange {n off : Nat} {bytes : List Byte} (h : s.Fetches bytes t) (hlen : bytes.length < n)
    (hn : n ≤ 2) (hoff : busView t t.pc = .outOfRange off) :
    fetchOperands n s = .error (.cartridgeOutOfRange off (t.stopped (.cartridgeOutOfRange off))) := by
  have hfault := fetch8_outOfRange hoff
  match bytes, h with
  | [], h =>
    cases h
    obtain rfl | rfl : n = 1 ∨ n = 2 := by simp only [List.length_nil] at hlen; omega
    all_goals simp only [fetchOperands, hfault, error_bind]
  | [b], h =>
    obtain ⟨u, hb, -, ht⟩ := fetches_cons h
    cases ht
    obtain rfl : n = 2 := by simp only [List.length_singleton] at hlen; omega
    simp only [fetchOperands, hb, hfault, ok_bind, error_bind]
  | _ :: _ :: _, _ =>
    simp only [List.length_cons] at hlen
    omega

/-- Where a byte of the instruction at PC lies outside the cartridge, the fetch faults at it (R92, R99). -/
theorem fetchInstr_outOfRange {off : Nat} {bytes : List Byte} (h : s.Fetches bytes t)
    (hlen : ∀ op ∈ bytes.head?, bytes.length < instrLength s.params.stopLen op) (hoff : busView t t.pc = .outOfRange off) :
    fetchInstr s = .error (.cartridgeOutOfRange off (t.stopped (.cartridgeOutOfRange off))) := by
  cases bytes with
  | nil =>
    cases h
    simp only [fetchInstr, fetch8_outOfRange hoff, error_bind]
  | cons op bytes =>
    obtain ⟨u, hop, hparams, hrest⟩ := fetches_cons h
    have hshort : bytes.length < (decodeForm op 0 0).operandBytes u.params.stopLen := by
      have := hlen op rfl
      rw [hparams]
      simp only [instrLength, List.length_cons] at this
      omega
    simp only [fetchInstr, hop, ok_bind, fetchOperands_outOfRange hrest hshort (operandBytes_le_two _ _) hoff, error_bind]

end

/-! ## A step by its processor's part (R320, R327) -/

theorem step_of_processorPart_next {s t : State} (hs : s.fault = none) (h : processorPart s = .next t) :
    step s = .next (displayAdvance t.cost (timerAdvance t.cost t)) := by
  simp only [step, machineStep, hs, h, advance]

theorem settleEi_eiArmed (s u : State) : settleEi (eiArmed s) u =
    if s.params.eiDelay = .one ∧ s.eiPending = true ∧ u.eiPending = true then { u with ime := true, eiPending := false }
    else u := by
  simp only [settleEi, eiArmed, Bool.and_eq_true, decide_eq_true_eq, and_assoc]

/-- Settles O39: the bytes at PC are fetched as the instruction they decode to, and a fetch outside the cartridge is the fault of
the step. -/
theorem stepRunsDecodedInstruction : Obligations.StepRunsDecodedInstruction := by
  intro s hs hhalted hdue
  have hpart := processorPart_eq_execute hhalted hdue
  refine ⟨fun t bytes i hfetches hdecode => ?_, fun t bytes off hfetches hlen hoff => ⟨?_, hfetches.same⟩⟩
  · obtain ⟨op, b1, b2, rfl, rfl⟩ := decode_eq_ok_iff.1 hdecode
    rw [List.append_nil] at hfetches
    have hfetch := fetchInstr_of_fetches hfetches
    cases hexec : exec (decodeBytes op b1 b2) t with
    | next u =>
      have hexecute : execute s = .next (settleEi (eiArmed s) u) := by simp only [execute, hfetch, hexec]
      rw [step_of_processorPart_next hs (hpart.trans hexecute), settleEi_cost, settleEi_eiArmed]
    | fault f => exact step_of_processorPart_fault hs (hpart.trans (execute_of_exec_fault hfetch hexec))
    | refused r => simp only [step, machineStep, hs, hpart, execute, hfetch, hexec]
  · have hexecute : execute s = faulted (.cartridgeOutOfRange off) t := by
      simp only [execute, fetchInstr_outOfRange hfetches hlen hoff]
      rfl
    exact step_of_processorPart_fault hs (hpart.trans hexecute)

/-! ## Interrupt service (R321, R322, R331) -/

/-- The source taken is the lowest-numbered one whose bit is set (R334). -/
theorem firstSource_of_lowest {m : Byte} {i : InterruptSource} (hi : bit m i.index = true)
    (hlow : ∀ j < i.index, bit m j = false) : firstSource m = some i := by
  unfold firstSource
  cases i <;> simp_all [InterruptSource.index]

theorem firstSource_eq_none {m : Byte} (h : m &&& 0x1F = 0) : firstSource m = none := by
  have hbit : ∀ k < 5, bit m k = false := fun k hk => by
    have hmask : ∀ k < 5, bit 0x1F k = true := by decide
    have hzero : bit (m &&& 0x1F) k = false := by rw [h]; exact BitVec.getLsbD_zero
    rwa [bit_and, hmask k hk, Bool.and_true] at hzero
  simp [firstSource, hbit]

section
variable {s : State}

/-- With IME set and a request that is enabled, the processor's part takes its source. -/
theorem processorPart_service {i : InterruptSource} (hime : s.ime = true)
    (hi : firstSource (s.load Port.IF &&& s.load Port.IE) = some i) :
    processorPart s = complete (isrCycles s.params.isrCycles) (serviceInterrupt i s) := by
  have hdue : s.load Port.IF &&& s.load Port.IE ≠ 0 := fun h => by
    rw [h] at hi
    cases hi
  simp only [processorPart, hime, hdue, hi, decide_true, Bool.and_self, if_true, ne_eq, not_false_eq_true]

/-- With IME set, requests of bits 7 to 5 alone stop the machine. -/
theorem processorPart_unspecified (hime : s.ime = true) (hdue : s.load Port.IF &&& s.load Port.IE ≠ 0)
    (hnone : firstSource (s.load Port.IF &&& s.load Port.IE) = none) :
    processorPart s = faulted (.unspecifiedInterruptState (s.load Port.IF) (s.load Port.IE)) s := by
  simp only [processorPart, hime, hdue, hnone, decide_true, Bool.and_self, if_true, ne_eq, not_false_eq_true]
  rfl

/-- A request taken: its IF bit and IME cleared. -/
def requestTaken (i : InterruptSource) (s : State) : State :=
  { s.store Port.IF (clearBit (s.load Port.IF) i.index) with ime := false }

theorem serviceInterrupt_eq (i : InterruptSource) (s : State) : serviceInterrupt i s =
    (push16 s.pc (requestTaken i s) >>= fun t => pure { t with pc := i.vector, halted := false }) := rfl

theorem serviceInterrupt_of_push {i : InterruptSource} {t : State} (h : push16 s.pc (requestTaken i s) = .ok t) :
    serviceInterrupt i s = .ok { t with pc := i.vector, halted := false } := by
  rw [serviceInterrupt_eq, h, ok_bind, pure_ok]

theorem serviceInterrupt_of_push_error {i : InterruptSource} {f : Fault} (h : push16 s.pc (requestTaken i s) = .error f) :
    serviceInterrupt i s = .error f := by
  rw [serviceInterrupt_eq, h, error_bind]

/-- Whether a write is safe depends on the latch, the cartridge and the banks alone. -/
theorem State.Writable.congr {t : State} {a : Word} {v : Byte} (hb : t.booting = s.booting) (hc : t.cart = s.cart)
    (hk : t.bank = s.bank) (h : s.Writable a v) : t.Writable a v :=
  ⟨h.1, fun hr => (h.2.1 hr).congr hb hc hk, fun hd i hi => (h.2.2 hd i hi).congr hb hc hk⟩

theorem pushWritable_requestTaken {w : Word} (i : InterruptSource) (h : s.PushWritable w) :
    (requestTaken i s).PushWritable w :=
  ⟨State.Writable.congr (s := s) rfl rfl rfl h.1, State.Writable.congr (s := s) rfl rfl rfl h.2⟩

end

theorem toNat_vector (i : InterruptSource) : i.vector.toNat = 0x40 + 8 * i.index := by cases i <;> rfl

/-- Settles O40: the source the check finds, and the push of its service. -/
theorem interruptService : Obligations.InterruptService := by
  intro s u i hs hime hif hie hlow hu
  obtain rfl : u = requestTaken i s := hu
  have hsource : firstSource (s.load Port.IF &&& s.load Port.IE) = some i :=
    firstSource_of_lowest (by rw [bit_and, hif, hie]; rfl) fun j hj => by rw [bit_and]; exact hlow j hj
  have hpart := processorPart_service hime hsource
  refine ⟨toNat_vector i, fun hw => ?_, fun f hpush => ?_⟩
  · obtain ⟨-, t, -, -, hpush⟩ := push16_of_writable (pushWritable_requestTaken i hw)
    refine ⟨t, hpush, fun c hc => ?_⟩
    have hc : c = isrCycles s.params.isrCycles := hc
    rw [serviceInterrupt_of_push hpush, complete_ok, ← hc] at hpart
    exact step_of_processorPart_next hs hpart
  · rw [serviceInterrupt_of_push_error hpush] at hpart
    exact step_of_processorPart_fault hs hpart

/-! ## The halted core (R323, R325) -/

section
variable {s : State}

theorem processorPart_idle (hhalted : s.halted = true) (hime : s.ime = true)
    (hdue : s.load Port.IF &&& s.load Port.IE = 0) : processorPart s = .next { s with cost := 4 } := by
  simp [processorPart, hime, hdue, hhalted]

/-- With IME clear the byte that P_HALT_WAKE names decides what a halted core does. -/
theorem processorPart_halted (hhalted : s.halted = true) (hime : s.ime = false) {w : Byte}
    (hw : w = wakeByte s.params.haltWake (s.load Port.IF) (s.load Port.IE)) : processorPart s =
      if w &&& 0x1F ≠ 0 then .next { s with halted := false, cost := 4 }
      else if w ≠ 0 then faulted (.unspecifiedInterruptState (s.load Port.IF) (s.load Port.IE)) s
      else .next { s with cost := 4 } := by
  have hservice : ¬ (s.ime && decide (s.load Port.IF &&& s.load Port.IE ≠ 0)) = true := by simp [hime]
  simp only [processorPart, if_neg hservice, if_pos hhalted, if_neg (ne_true_of_eq_false hime), ← hw]
  rfl

end

/-- Settles O41: the cases of the halted core, and the check that bits 7 to 5 alone decide. -/
theorem haltWakeAndIdle : Obligations.HaltWakeAndIdle := by
  refine ⟨fun s w hs hhalted hw => ?_, fun s hs hime hdue hhigh => ?_⟩
  · have hw : w = wakeByte s.params.haltWake (s.load Port.IF) (s.load Port.IE) := by
      rw [hw]
      cases s.params.haltWake <;> rfl
    refine ⟨fun hime hdue => ?_, fun hime hlow => ?_, fun hime hzero => ?_, fun hime hlow hne => ?_⟩
    · exact step_of_processorPart_next hs (processorPart_idle hhalted hime hdue)
    all_goals have hpart := processorPart_halted hhalted hime hw
    · rw [if_pos hlow] at hpart
      exact step_of_processorPart_next hs hpart
    · rw [if_neg (by rw [hzero]; decide), if_neg (not_not.2 hzero)] at hpart
      exact step_of_processorPart_next hs hpart
    · rw [if_neg (not_not.2 hlow), if_pos hne] at hpart
      exact step_of_processorPart_fault hs hpart
  · exact step_of_processorPart_fault hs (processorPart_unspecified hime hdue (firstSource_eq_none hhigh))

end Sys2Proof.Machine
end

section
/-! PROOFS. What the host does between steps (60_exceptions.md R399; 20_memory.md R78; 70_reset_and_hazards.md R453). -/

namespace Sys2Proof.Machine

theorem Buttons.get_put (b : Buttons) (j k : Button) (v : Bool) :
    Buttons.get (Buttons.put b k v) j = if j = k then v else Buttons.get b j := by
  cases j <;> cases k <;> rfl

/-- Settles O60: the query's two results, and one button written. -/
theorem hostInteractions : Obligations.HostInteractions := fun s k =>
  ⟨rfl, rfl, rfl, rfl, rfl, fun j => ⟨Buttons.get_put s.buttons j k true, Buttons.get_put s.buttons j k false⟩⟩

end Sys2Proof.Machine
end

section
/-! PROOFS. No step is refused (70_reset_and_hazards.md R454), and what a completed step costs (60_exceptions.md R328). -/

namespace Sys2Proof.Machine

/-- An outcome whose changes are accounted for is no refusal. -/
theorem Outcome.Within.ne_refused {R : State → State → Prop} {s : State} {o : Host.Outcome State Fault Refusal}
    (h : Outcome.Within R s o) (r : Refusal) : o ≠ .refused r := by
  rintro rfl
  exact h

/-- Only the processor's part could refuse a step. -/
theorem step_refused {s : State} {r : Refusal} (h : step s = .refused r) : processorPart s = .refused r := by
  unfold step machineStep at h
  split at h
  · cases h
  · split at h <;> cases h
    assumption

@[simp] theorem advance_cost (c : Nat) (s : State) : (advance c s).cost = s.cost := by rw [(advances_advance c s).same]

/-- Settles O38: everything an instruction and the processor's part can do excludes a refusal, and the devices' advance leaves
the cost that the processor's part set. -/
theorem stepTotalityAndCost : Obligations.StepTotalityAndCost := by
  refine ⟨fun i s r => (within_exec i s).ne_refused r,
    fun s r h => (within_processorPart s).ne_refused r (step_refused h), fun s t h => ?_⟩
  obtain ⟨-, u, hpart, rfl⟩ := step_next h
  rw [advance_cost]
  exact costsAStep_processorPart s u hpart

end Sys2Proof.Machine
end

section
/-! PROOFS. The state that reset leaves (70_reset_and_hazards.md R420 to R427), and its invariant (Safety.lean, `State.Inv`). -/

namespace Sys2Proof.Machine

/-! ## Values (R422 to R426) -/

theorem load_reset (k : Nat) : State.reset.load k = unlisted .bus k := rfl

/-- The I/O bytes that R423 leaves at 0x00. -/
theorem unlisted_io_zero {k : Nat} (h : k ∉ [0xFF40, 0xFF47, 0xFF48, 0xFF49]) : unlisted .bus k = 0x00 := by
  simp only [List.mem_cons, List.not_mem_nil, or_false, not_or] at h
  obtain ⟨hlcdc, hbgp, hobp⟩ := h
  rw [unlisted_io, if_neg hlcdc, if_neg hbgp, if_neg (not_or.2 hobp)]

/-- The frame of R424 is one grey throughout. -/
theorem reset_frame (y : Fin 144) (x : Fin 160) : State.reset.frame[y][x] = .g255 := by
  simp only [State.reset, Fin.getElem_fin, Vector.getElem_replicate]

/-- Settles O48: each value read off `State.reset`; its empty memory reads as unlisted addresses do. -/
theorem resetState : Obligations.ResetState :=
  ⟨rfl, rfl, rfl, rfl, rfl, rfl, rfl, rfl, rfl, rfl, rfl, rfl, rfl, rfl, rfl, rfl,
    fun k _ _ hk => (load_reset k).trans (unlisted_io_zero hk), rfl, reset_frame, rfl, rfl, rfl, rfl, rfl, rfl⟩

/-! ## The memories (R425) -/

theorem isStorageKey_of_isRamKey {k : Nat} (h : isRamKey k = true) : isStorageKey k = true := by
  simp only [isRamKey, isStorageKey, Bool.or_eq_true, decide_eq_true_eq] at h ⊢
  omega

theorem State.MemoryInv.store {s : State} {k : Nat} (h : s.MemoryInv) (hk : isStorageKey k = true) (v : Byte) :
    (s.store k v).MemoryInv :=
  { h with
    mem := Memory.wf_write k v h.mem
    memKeys := fun c hc => (Memory.mem_write hc).elim (fun e => e ▸ hk) (h.memKeys c) }

theorem buildCartridge_rom {rom : Memory} {size : Nat} {cart : Cartridge} (h : buildCartridge rom size = some cart) :
    cart.rom = rom := by
  unfold buildCartridge at h
  split at h
  · cases h
  · split at h
    · cases h
    · split at h <;> cases h
      rfl

section

variable (q : Config.Params) {cart : Cartridge} {init : Init} (hcart : cart.rom.wf .cartRom) (hram : init.ram.wf .bus)
  (hbuffer : init.cartRam.wf .cartRam)

include hcart hram hbuffer

theorem memoryInv_seeded : (seeded q cart init).MemoryInv where
  mem := Memory.wf_filter _ hram
  cartRam := Memory.wf_filter _ hbuffer
  cartRom := hcart
  bootRom := Memory.wf_nil
  memKeys := fun _ hc => isStorageKey_of_isRamKey (List.mem_filter.1 hc).2
  bufferKeys := fun _ hc => of_decide_eq_true (List.mem_filter.1 hc).2

/-- A bootstrap image adds four stores to the I/O block (R423). -/
theorem memoryInv_booted {image : Memory} (himage : image.wf .bootRom) : (booted q cart image init).MemoryInv :=
  have hseeded := memoryInv_seeded q hcart hram hbuffer
  have hzero := (((hseeded.store (k := Port.LCDC) rfl 0).store (k := Port.BGP) rfl 0).store (k := Port.OBP0) rfl 0).store
    (k := Port.OBP1) rfl 0
  { hzero with bootRom := himage }

end

/-! ## The invariant -/

/-- A machine that is `State.reset` but for its arguments, its memories and its registers, with LY and STAT at zero, meets the
invariant: the display controller rests, disabled, in H-blank at line 0 with both gates open (R352, R424). -/
theorem inv_of_resetDevices {s : State} (hmemory : s.MemoryInv)
    (hs : s = { State.reset with
      params := s.params, cart := s.cart, mem := s.mem, cartRam := s.cartRam, bootRom := s.bootRom, booting := s.booting,
      regs := s.regs, flags := s.flags, sp := s.sp, pc := s.pc })
    (hly : s.load Port.LY = 0) (hstat : s.load Port.STAT = 0) : s.Inv :=
  have hdisplay : s.display = State.reset.display := by rw [hs]
  have htimer : s.timer = State.reset.timer := by rw [hs]
  have hei : s.eiPending = false := by rw [hs]; rfl
  { memory := hmemory
    display :=
      { disabled := fun _ => by rw [hdisplay]; exact ⟨rfl, rfl, hly⟩
        clock := by rw [hdisplay]; decide
        line := by
          rw [hdisplay, hly]
          show (0 : Byte).toNat < 144
          decide
        statMode := by rw [hdisplay, hstat]; rfl
        statLyc := fun h => by rw [hdisplay] at h; cases h
        vramGate := by rw [hs]; rfl
        oamGate := by rw [hs]; rfl }
    divAcc := by rw [htimer]; decide
    eiPending := fun _ => hei
    eiMasked := fun h => by rw [hei] at h; cases h
    running := by rw [hs]; rfl }

theorem inv_of_resetWith {q : Config.Params} {rom : Memory} {size : Nat} {boot : Option Memory} {init : Init} {s : State}
    (hrom : rom.wf .cartRom) (hboot : ∀ image ∈ boot, image.wf .bootRom) (hram : init.ram.wf .bus)
    (hbuffer : init.cartRam.wf .cartRam) (h : resetWith q rom size boot init = some s) : s.Inv := by
  obtain ⟨cart, hbuild⟩ : ∃ cart, buildCartridge rom size = some cart := ⟨_, (resetWith_arguments h).2.1⟩
  have hcart : cart.rom.wf .cartRom := by rwa [buildCartridge_rom hbuild]
  cases boot with
  | none =>
    obtain rfl := Option.some.inj ((resetWith_none hbuild).symm.trans h)
    exact inv_of_resetDevices (memoryInv_seeded q hcart hram hbuffer) rfl (seeded_load_io q cart init rfl)
      (seeded_load_io q cart init rfl)
  | some image =>
    obtain rfl := Option.some.inj ((resetWith_some hbuild).symm.trans h)
    exact inv_of_resetDevices (memoryInv_booted q hcart hram hbuffer (hboot image rfl)) rfl
      (booted_load_io q cart image init rfl) (booted_load_io q cart image init rfl)

/-- Settles O47: the machine without a bootstrap image, the machine with one, and `State.reset` as one of the first. -/
theorem resetMeetsInvariant : Obligations.ResetMeetsInvariant :=
  have hblank := resetWith_blank ⟨State.reset.regs, State.reset.flags, State.reset.sp, [], []⟩ rfl rfl
  ⟨inv_of_resetWith (boot := none) Memory.wf_nil (fun _ h => nomatch h) Memory.wf_nil Memory.wf_nil hblank,
    fun _ _ _ _ _ _ hrom hboot hram hbuffer h => inv_of_resetWith hrom hboot hram hbuffer h⟩

end Sys2Proof.Machine
end
